-- ==== Sys2Proof/Word.lean ====
section
/-! DEFINITION. The words of the machine and the numbers that name its registers (00_scope.md R5, R6). -/

namespace Sys2Proof

/-- A byte is 8 bits (R6). -/
abbrev Byte := BitVec 8

/-- The spec's "word" is 16 bits (R6); it is also the length of an instruction (R90). -/
abbrev Half := BitVec 16

/-- The spec's "longword" is 32 bits (R6), the width of every register and address. -/
abbrev Word := BitVec 32

/-- A general register number, R0 to R15 (10_state.md R21). -/
abbrev Reg := Fin 16

/-- The number b of a back-bank register Rb_BANK, 0 to 7 (10_state.md R39). -/
abbrev BankReg := Fin 8

/-- Byte order of memory, fixed for a run (20_memory.md R61). -/
inductive Endian where
  | big
  | little
deriving DecidableEq, Repr

end Sys2Proof
end

