-- ==== Sys2Proof/Machine/Bytes.lean ====
section
/-! DEFINITION. Bit fields, extensions and the byte order of memory (00_scope.md R5 to R7, 20_memory.md R61). -/

namespace Sys2Proof

/-- `sext_8` of R7: a byte sign-extended to 32 bits. -/
def sext8 (v : Byte) : Word := v.signExtend 32

/-- `sext_12` of R7. -/
def sext12 (v : BitVec 12) : Word := v.signExtend 32

/-- `sext_16` of R7: a 16-bit word sign-extended to 32 bits. -/
def sext16 (v : Half) : Word := v.signExtend 32

/-- `zext_4` of R7. -/
def zext4 (v : BitVec 4) : Word := v.setWidth 32

/-- `zext_8` of R7: a byte zero-extended to 32 bits. -/
def zext8 (v : Byte) : Word := v.setWidth 32

/-- `zext_16` of R7. -/
def zext16 (v : Half) : Word := v.setWidth 32

/-- `zext_1` of R7: a bit as 0 or 1 in a whole register. -/
def zext1 (b : Bool) : Word := (BitVec.ofBool b).setWidth 32

/-- Bits 7:0 of a register. -/
def lowByte (v : Word) : Byte := v.extractLsb' 0 8

/-- Bits 15:0 of a register. -/
def lowHalf (v : Word) : Half := v.extractLsb' 0 16

/-- Bits 31:16 of a register. -/
def highHalf (v : Word) : Half := v.extractLsb' 16 16

/-- Byte k of a register, byte 0 being bits 7:0. -/
def byteOf (v : Word) (k : Nat) : Byte := v.extractLsb' (8 * k) 8

/-- The word w with bit k set to b and every other bit kept. -/
def setBit (w : Word) (k : Nat) (b : Bool) : Word := (w &&& ~~~(1#32 <<< k)) ||| (zext1 b <<< k)

/-- `MemRead(a, 2)` from the bytes at a and a + 1 (R61). -/
def Endian.join2 (e : Endian) (b0 b1 : Byte) : Half :=
  match e with
  | .big => b0 ++ b1
  | .little => b1 ++ b0

/-- `MemRead(a, 4)` from the bytes at a, a + 1, a + 2 and a + 3 (R61). -/
def Endian.join4 (e : Endian) (b0 b1 b2 b3 : Byte) : Word :=
  match e with
  | .big => b0 ++ b1 ++ b2 ++ b3
  | .little => b3 ++ b2 ++ b1 ++ b0

/-- The two bytes of a 16-bit word as they lie in memory, lowest address first (R61). -/
def Endian.split2 (e : Endian) (v : Half) : List Byte :=
  match e with
  | .big => [v.extractLsb' 8 8, v.extractLsb' 0 8]
  | .little => [v.extractLsb' 0 8, v.extractLsb' 8 8]

/-- The four bytes of a longword as they lie in memory, lowest address first (R61). -/
def Endian.split4 (e : Endian) (v : Word) : List Byte :=
  match e with
  | .big => [byteOf v 3, byteOf v 2, byteOf v 1, byteOf v 0]
  | .little => [byteOf v 0, byteOf v 1, byteOf v 2, byteOf v 3]

end Sys2Proof
end

