-- ==== Sys2Proof/Syntax.lean ====
section
/-! DEFINITION. The instructions, one constructor per row of spec/opcode_table.json. Operands stand in assembler order,
source first (00_scope.md R8): m and n are register numbers, b a back-bank register number, i an 8-bit immediate and d
a displacement FIELD, not yet extended or scaled (30_encoding.md R92 to R94). Every operand type holds exactly the values
its field can hold, so no operand is ever out of range. -/

namespace Sys2Proof

/-- The instruction set of 00_scope.md R2. -/
inductive Instr where
  -- Data transfer (40_data_transfer.md)
  /-- `MOV #imm,Rn` (R121). -/
  | movImm (i : BitVec 8) (n : Reg)
  /-- `MOV.W @(disp,PC),Rn` (R122). -/
  | movWPc (d : BitVec 8) (n : Reg)
  /-- `MOV.L @(disp,PC),Rn` (R123). -/
  | movLPc (d : BitVec 8) (n : Reg)
  /-- `MOV Rm,Rn` (R124). -/
  | mov (m : Reg) (n : Reg)
  /-- `MOV.B Rm,@Rn` (R125). -/
  | movBStore (m : Reg) (n : Reg)
  /-- `MOV.W Rm,@Rn` (R126). -/
  | movWStore (m : Reg) (n : Reg)
  /-- `MOV.L Rm,@Rn` (R127). -/
  | movLStore (m : Reg) (n : Reg)
  /-- `MOV.B @Rm,Rn` (R128). -/
  | movBLoad (m : Reg) (n : Reg)
  /-- `MOV.W @Rm,Rn` (R129). -/
  | movWLoad (m : Reg) (n : Reg)
  /-- `MOV.L @Rm,Rn` (R130). -/
  | movLLoad (m : Reg) (n : Reg)
  /-- `MOV.B Rm,@-Rn` (R131). -/
  | movBStoreDec (m : Reg) (n : Reg)
  /-- `MOV.W Rm,@-Rn` (R132). -/
  | movWStoreDec (m : Reg) (n : Reg)
  /-- `MOV.L Rm,@-Rn` (R133). -/
  | movLStoreDec (m : Reg) (n : Reg)
  /-- `MOV.B @Rm+,Rn` (R134). -/
  | movBLoadInc (m : Reg) (n : Reg)
  /-- `MOV.W @Rm+,Rn` (R135). -/
  | movWLoadInc (m : Reg) (n : Reg)
  /-- `MOV.L @Rm+,Rn` (R136). -/
  | movLLoadInc (m : Reg) (n : Reg)
  /-- `MOV.B R0,@(disp,Rn)` (R137). -/
  | movBStoreDisp (d : BitVec 4) (n : Reg)
  /-- `MOV.W R0,@(disp,Rn)` (R138). -/
  | movWStoreDisp (d : BitVec 4) (n : Reg)
  /-- `MOV.L Rm,@(disp,Rn)` (R139). -/
  | movLStoreDisp (m : Reg) (d : BitVec 4) (n : Reg)
  /-- `MOV.B @(disp,Rm),R0` (R140). -/
  | movBLoadDisp (d : BitVec 4) (m : Reg)
  /-- `MOV.W @(disp,Rm),R0` (R141). -/
  | movWLoadDisp (d : BitVec 4) (m : Reg)
  /-- `MOV.L @(disp,Rm),Rn` (R142). -/
  | movLLoadDisp (d : BitVec 4) (m : Reg) (n : Reg)
  /-- `MOV.B Rm,@(R0,Rn)` (R143). -/
  | movBStoreIdx (m : Reg) (n : Reg)
  /-- `MOV.W Rm,@(R0,Rn)` (R144). -/
  | movWStoreIdx (m : Reg) (n : Reg)
  /-- `MOV.L Rm,@(R0,Rn)` (R145). -/
  | movLStoreIdx (m : Reg) (n : Reg)
  /-- `MOV.B @(R0,Rm),Rn` (R146). -/
  | movBLoadIdx (m : Reg) (n : Reg)
  /-- `MOV.W @(R0,Rm),Rn` (R147). -/
  | movWLoadIdx (m : Reg) (n : Reg)
  /-- `MOV.L @(R0,Rm),Rn` (R148). -/
  | movLLoadIdx (m : Reg) (n : Reg)
  /-- `MOV.B R0,@(disp,GBR)` (R149). -/
  | movBStoreGbr (d : BitVec 8)
  /-- `MOV.W R0,@(disp,GBR)` (R150). -/
  | movWStoreGbr (d : BitVec 8)
  /-- `MOV.L R0,@(disp,GBR)` (R151). -/
  | movLStoreGbr (d : BitVec 8)
  /-- `MOV.B @(disp,GBR),R0` (R152). -/
  | movBLoadGbr (d : BitVec 8)
  /-- `MOV.W @(disp,GBR),R0` (R153). -/
  | movWLoadGbr (d : BitVec 8)
  /-- `MOV.L @(disp,GBR),R0` (R154). -/
  | movLLoadGbr (d : BitVec 8)
  /-- `MOVA @(disp,PC),R0` (R155). -/
  | mova (d : BitVec 8)
  /-- `MOVT Rn` (R156). -/
  | movt (n : Reg)
  /-- `SWAP.B Rm,Rn` (R157). -/
  | swapB (m : Reg) (n : Reg)
  /-- `SWAP.W Rm,Rn` (R158). -/
  | swapW (m : Reg) (n : Reg)
  /-- `XTRCT Rm,Rn` (R159). -/
  | xtrct (m : Reg) (n : Reg)
  -- Arithmetic (41_arithmetic.md)
  /-- `ADD Rm,Rn` (R171). -/
  | add (m : Reg) (n : Reg)
  /-- `ADD #imm,Rn` (R172). -/
  | addImm (i : BitVec 8) (n : Reg)
  /-- `ADDC Rm,Rn` (R173). -/
  | addc (m : Reg) (n : Reg)
  /-- `ADDV Rm,Rn` (R174). -/
  | addv (m : Reg) (n : Reg)
  /-- `CMP/EQ #imm,R0` (R175). -/
  | cmpEqImm (i : BitVec 8)
  /-- `CMP/EQ Rm,Rn` (R176). -/
  | cmpEq (m : Reg) (n : Reg)
  /-- `CMP/HS Rm,Rn` (R177). -/
  | cmpHs (m : Reg) (n : Reg)
  /-- `CMP/GE Rm,Rn` (R178). -/
  | cmpGe (m : Reg) (n : Reg)
  /-- `CMP/HI Rm,Rn` (R179). -/
  | cmpHi (m : Reg) (n : Reg)
  /-- `CMP/GT Rm,Rn` (R180). -/
  | cmpGt (m : Reg) (n : Reg)
  /-- `CMP/PZ Rn` (R181). -/
  | cmpPz (n : Reg)
  /-- `CMP/PL Rn` (R182). -/
  | cmpPl (n : Reg)
  /-- `CMP/STR Rm,Rn` (R183). -/
  | cmpStr (m : Reg) (n : Reg)
  /-- `DIV0S Rm,Rn` (R184). -/
  | div0s (m : Reg) (n : Reg)
  /-- `DIV0U` (R185). -/
  | div0u
  /-- `DIV1 Rm,Rn` (R186). -/
  | div1 (m : Reg) (n : Reg)
  /-- `DMULS.L Rm,Rn` (R188). -/
  | dmulsL (m : Reg) (n : Reg)
  /-- `DMULU.L Rm,Rn` (R189). -/
  | dmuluL (m : Reg) (n : Reg)
  /-- `MUL.L Rm,Rn` (R197). -/
  | mulL (m : Reg) (n : Reg)
  /-- `MULS.W Rm,Rn` (R198). -/
  | mulsW (m : Reg) (n : Reg)
  /-- `MULU.W Rm,Rn` (R199). -/
  | muluW (m : Reg) (n : Reg)
  /-- `MAC.L @Rm+,@Rn+` (R195). -/
  | macL (m : Reg) (n : Reg)
  /-- `MAC.W @Rm+,@Rn+` (R196). -/
  | macW (m : Reg) (n : Reg)
  /-- `NEG Rm,Rn` (R200). -/
  | neg (m : Reg) (n : Reg)
  /-- `NEGC Rm,Rn` (R201). -/
  | negc (m : Reg) (n : Reg)
  /-- `SUB Rm,Rn` (R202). -/
  | sub (m : Reg) (n : Reg)
  /-- `SUBC Rm,Rn` (R203). -/
  | subc (m : Reg) (n : Reg)
  /-- `SUBV Rm,Rn` (R204). -/
  | subv (m : Reg) (n : Reg)
  /-- `DT Rn` (R190). -/
  | dt (n : Reg)
  /-- `EXTS.B Rm,Rn` (R191). -/
  | extsB (m : Reg) (n : Reg)
  /-- `EXTS.W Rm,Rn` (R192). -/
  | extsW (m : Reg) (n : Reg)
  /-- `EXTU.B Rm,Rn` (R193). -/
  | extuB (m : Reg) (n : Reg)
  /-- `EXTU.W Rm,Rn` (R194). -/
  | extuW (m : Reg) (n : Reg)
  -- Logic (42_logic.md)
  /-- `AND Rm,Rn` (R221). -/
  | and (m : Reg) (n : Reg)
  /-- `AND #imm,R0` (R222). -/
  | andImm (i : BitVec 8)
  /-- `AND.B #imm,@(R0,GBR)` (R223). -/
  | andB (i : BitVec 8)
  /-- `NOT Rm,Rn` (R224). -/
  | not (m : Reg) (n : Reg)
  /-- `OR Rm,Rn` (R225). -/
  | or (m : Reg) (n : Reg)
  /-- `OR #imm,R0` (R226). -/
  | orImm (i : BitVec 8)
  /-- `OR.B #imm,@(R0,GBR)` (R227). -/
  | orB (i : BitVec 8)
  /-- `TAS.B @Rn` (R228). -/
  | tasB (n : Reg)
  /-- `TST Rm,Rn` (R229). -/
  | tst (m : Reg) (n : Reg)
  /-- `TST #imm,R0` (R230). -/
  | tstImm (i : BitVec 8)
  /-- `TST.B #imm,@(R0,GBR)` (R231). -/
  | tstB (i : BitVec 8)
  /-- `XOR Rm,Rn` (R232). -/
  | xor (m : Reg) (n : Reg)
  /-- `XOR #imm,R0` (R233). -/
  | xorImm (i : BitVec 8)
  /-- `XOR.B #imm,@(R0,GBR)` (R234). -/
  | xorB (i : BitVec 8)
  -- Shift and rotate (43_shift.md)
  /-- `ROTL Rn` (R241). -/
  | rotl (n : Reg)
  /-- `ROTR Rn` (R242). -/
  | rotr (n : Reg)
  /-- `ROTCL Rn` (R243). -/
  | rotcl (n : Reg)
  /-- `ROTCR Rn` (R244). -/
  | rotcr (n : Reg)
  /-- `SHAL Rn` (R245). -/
  | shal (n : Reg)
  /-- `SHAR Rn` (R246). -/
  | shar (n : Reg)
  /-- `SHAD Rm,Rn` (R247). -/
  | shad (m : Reg) (n : Reg)
  /-- `SHLL Rn` (R248). -/
  | shll (n : Reg)
  /-- `SHLR Rn` (R249). -/
  | shlr (n : Reg)
  /-- `SHLL2 Rn` (R250). -/
  | shll2 (n : Reg)
  /-- `SHLL8 Rn` (R251). -/
  | shll8 (n : Reg)
  /-- `SHLL16 Rn` (R252). -/
  | shll16 (n : Reg)
  /-- `SHLR2 Rn` (R253). -/
  | shlr2 (n : Reg)
  /-- `SHLR8 Rn` (R254). -/
  | shlr8 (n : Reg)
  /-- `SHLR16 Rn` (R255). -/
  | shlr16 (n : Reg)
  /-- `SHLD Rm,Rn` (R256). -/
  | shld (m : Reg) (n : Reg)
  -- Branch (44_branch.md)
  /-- `BF label` (R263). -/
  | bf (d : BitVec 8)
  /-- `BF/S label` (R264). -/
  | bfS (d : BitVec 8)
  /-- `BT label` (R265). -/
  | bt (d : BitVec 8)
  /-- `BT/S label` (R266). -/
  | btS (d : BitVec 8)
  /-- `BRA label` (R267). -/
  | bra (d : BitVec 12)
  /-- `BRAF Rm` (R268). -/
  | braf (m : Reg)
  /-- `BSR label` (R269). -/
  | bsr (d : BitVec 12)
  /-- `BSRF Rm` (R270). -/
  | bsrf (m : Reg)
  /-- `JMP @Rm` (R271). -/
  | jmp (m : Reg)
  /-- `JSR @Rm` (R272). -/
  | jsr (m : Reg)
  /-- `RTS` (R273). -/
  | rts
  -- System control (45_system_control.md)
  /-- `CLRMAC` (R281). -/
  | clrmac
  /-- `CLRS` (R282). -/
  | clrs
  /-- `CLRT` (R283). -/
  | clrt
  /-- `SETS` (R284). -/
  | sets
  /-- `SETT` (R285). -/
  | sett
  /-- `NOP` (R286). -/
  | nop
  /-- `LDC Rm,SR` (R287). -/
  | ldcSr (m : Reg)
  /-- `LDC Rm,GBR` (R288). -/
  | ldcGbr (m : Reg)
  /-- `LDC Rm,VBR` (R289). -/
  | ldcVbr (m : Reg)
  /-- `LDC Rm,SSR` (R290). -/
  | ldcSsr (m : Reg)
  /-- `LDC Rm,SPC` (R291). -/
  | ldcSpc (m : Reg)
  /-- `LDC.L @Rm+,SR` (R292). -/
  | ldcLSr (m : Reg)
  /-- `LDC.L @Rm+,GBR` (R293). -/
  | ldcLGbr (m : Reg)
  /-- `LDC.L @Rm+,VBR` (R294). -/
  | ldcLVbr (m : Reg)
  /-- `LDC.L @Rm+,SSR` (R295). -/
  | ldcLSsr (m : Reg)
  /-- `LDC.L @Rm+,SPC` (R296). -/
  | ldcLSpc (m : Reg)
  /-- `LDC Rm,Rb_BANK` (R300). -/
  | ldcBank (m : Reg) (b : BankReg)
  /-- `LDC.L @Rm+,Rb_BANK` (R301). -/
  | ldcLBank (m : Reg) (b : BankReg)
  /-- `STC SR,Rn` (R308). -/
  | stcSr (n : Reg)
  /-- `STC GBR,Rn` (R309). -/
  | stcGbr (n : Reg)
  /-- `STC VBR,Rn` (R310). -/
  | stcVbr (n : Reg)
  /-- `STC SSR,Rn` (R313). -/
  | stcSsr (n : Reg)
  /-- `STC SPC,Rn` (R314). -/
  | stcSpc (n : Reg)
  /-- `STC.L SR,@-Rn` (R315). -/
  | stcLSr (n : Reg)
  /-- `STC.L GBR,@-Rn` (R316). -/
  | stcLGbr (n : Reg)
  /-- `STC.L VBR,@-Rn` (R317). -/
  | stcLVbr (n : Reg)
  /-- `STC.L SSR,@-Rn` (R318). -/
  | stcLSsr (n : Reg)
  /-- `STC.L SPC,@-Rn` (R319). -/
  | stcLSpc (n : Reg)
  /-- `STC Rb_BANK,Rn` (R302). -/
  | stcBank (b : BankReg) (n : Reg)
  /-- `STC.L Rb_BANK,@-Rn` (R303). -/
  | stcLBank (b : BankReg) (n : Reg)
  /-- `LDS Rm,MACH` (R297). -/
  | ldsMach (m : Reg)
  /-- `LDS Rm,MACL` (R298). -/
  | ldsMacl (m : Reg)
  /-- `LDS Rm,PR` (R299). -/
  | ldsPr (m : Reg)
  /-- `LDS.L @Rm+,MACH` (R304). -/
  | ldsLMach (m : Reg)
  /-- `LDS.L @Rm+,MACL` (R305). -/
  | ldsLMacl (m : Reg)
  /-- `LDS.L @Rm+,PR` (R306). -/
  | ldsLPr (m : Reg)
  /-- `STS MACH,Rn` (R320). -/
  | stsMach (n : Reg)
  /-- `STS MACL,Rn` (R321). -/
  | stsMacl (n : Reg)
  /-- `STS PR,Rn` (R323). -/
  | stsPr (n : Reg)
  /-- `STS.L MACH,@-Rn` (R324). -/
  | stsLMach (n : Reg)
  /-- `STS.L MACL,@-Rn` (R325). -/
  | stsLMacl (n : Reg)
  /-- `STS.L PR,@-Rn` (R326). -/
  | stsLPr (n : Reg)
  /-- `RTE` (R322). -/
  | rte
  /-- `TRAPA #imm` (R327). -/
  | trapa (i : BitVec 8)
  /-- `SLEEP` (R312). -/
  | sleep
  /-- `PREF @Rn` (R311). -/
  | pref (n : Reg)
  /-- `LDTLB` (R307). -/
  | ldtlb
deriving DecidableEq, Repr

end Sys2Proof
end

