-- ==== Sys2Proof/Decode.lean ====
section
/-! DEFINITION. Decoding and encoding of instructions (30_encoding.md R90 to R97 and the `Encoding` line of every
instruction rule). Every instruction is one 16-bit word (R90); a word of no row is rejected by name (R96). -/

namespace Sys2Proof

/-- Why the decoder gives no instruction. -/
inductive DecodeError where
  /-- The word is a reserved encoding (R96, R97): safe, the machine raises an exception on it. -/
  | reservedWord (w : Half)
  /-- Fewer than the two bytes of an instruction (R99). -/
  | tooShort
deriving DecidableEq, Repr

/-- Bits 4k+3:4k of an instruction word (R91, R92). -/
def nibble (w : Half) (k : Nat) : BitVec 4 := w.extractLsb' (4 * k) 4

/-- The register that a register field names (R92). -/
def regOf (f : BitVec 4) : Reg := f.toFin

/-- The back-bank register that the field b of `1bbb` names (R92, formats nb and mb). -/
def bankRegOf (f : BitVec 4) : BankReg := (f.extractLsb' 0 3).toFin

/-- Words with w[15:12] = 0000 (R95), by w[3:0]. -/
def decode0 (n m d : BitVec 4) : Option Instr :=
  match d with
  | 0x2#4 =>
    match m with
    | 0x0#4 => some (.stcSr (regOf n))
    | 0x1#4 => some (.stcGbr (regOf n))
    | 0x2#4 => some (.stcVbr (regOf n))
    | 0x3#4 => some (.stcSsr (regOf n))
    | 0x4#4 => some (.stcSpc (regOf n))
    | _ => if m.getLsbD 3 then some (.stcBank (bankRegOf m) (regOf n)) else none
  | 0x3#4 =>
    match m with
    | 0x0#4 => some (.bsrf (regOf n))
    | 0x2#4 => some (.braf (regOf n))
    | 0x8#4 => some (.pref (regOf n))
    | _ => none
  | 0x4#4 => some (.movBStoreIdx (regOf m) (regOf n))
  | 0x5#4 => some (.movWStoreIdx (regOf m) (regOf n))
  | 0x6#4 => some (.movLStoreIdx (regOf m) (regOf n))
  | 0x7#4 => some (.mulL (regOf m) (regOf n))
  | 0x8#4 =>
    match m with
    | 0x0#4 => if n = 0#4 then some .clrt else none
    | 0x1#4 => if n = 0#4 then some .sett else none
    | 0x2#4 => if n = 0#4 then some .clrmac else none
    | 0x3#4 => if n = 0#4 then some .ldtlb else none
    | 0x4#4 => if n = 0#4 then some .clrs else none
    | 0x5#4 => if n = 0#4 then some .sets else none
    | _ => none
  | 0x9#4 =>
    match m with
    | 0x0#4 => if n = 0#4 then some .nop else none
    | 0x1#4 => if n = 0#4 then some .div0u else none
    | 0x2#4 => some (.movt (regOf n))
    | _ => none
  | 0xA#4 =>
    match m with
    | 0x0#4 => some (.stsMach (regOf n))
    | 0x1#4 => some (.stsMacl (regOf n))
    | 0x2#4 => some (.stsPr (regOf n))
    | _ => none
  | 0xB#4 =>
    match m with
    | 0x0#4 => if n = 0#4 then some .rts else none
    | 0x1#4 => if n = 0#4 then some .sleep else none
    | 0x2#4 => if n = 0#4 then some .rte else none
    | _ => none
  | 0xC#4 => some (.movBLoadIdx (regOf m) (regOf n))
  | 0xD#4 => some (.movWLoadIdx (regOf m) (regOf n))
  | 0xE#4 => some (.movLLoadIdx (regOf m) (regOf n))
  | 0xF#4 => some (.macL (regOf m) (regOf n))
  | _ => none

/-- Words with w[15:12] = 0001 (R95). -/
def decode1 (n m d : BitVec 4) : Option Instr :=
  some (.movLStoreDisp (regOf m) d (regOf n))

/-- Words with w[15:12] = 0010 (R95), by w[3:0]. -/
def decode2 (n m d : BitVec 4) : Option Instr :=
  match d with
  | 0x0#4 => some (.movBStore (regOf m) (regOf n))
  | 0x1#4 => some (.movWStore (regOf m) (regOf n))
  | 0x2#4 => some (.movLStore (regOf m) (regOf n))
  | 0x4#4 => some (.movBStoreDec (regOf m) (regOf n))
  | 0x5#4 => some (.movWStoreDec (regOf m) (regOf n))
  | 0x6#4 => some (.movLStoreDec (regOf m) (regOf n))
  | 0x7#4 => some (.div0s (regOf m) (regOf n))
  | 0x8#4 => some (.tst (regOf m) (regOf n))
  | 0x9#4 => some (.and (regOf m) (regOf n))
  | 0xA#4 => some (.xor (regOf m) (regOf n))
  | 0xB#4 => some (.or (regOf m) (regOf n))
  | 0xC#4 => some (.cmpStr (regOf m) (regOf n))
  | 0xD#4 => some (.xtrct (regOf m) (regOf n))
  | 0xE#4 => some (.muluW (regOf m) (regOf n))
  | 0xF#4 => some (.mulsW (regOf m) (regOf n))
  | _ => none

/-- Words with w[15:12] = 0011 (R95), by w[3:0]. -/
def decode3 (n m d : BitVec 4) : Option Instr :=
  match d with
  | 0x0#4 => some (.cmpEq (regOf m) (regOf n))
  | 0x2#4 => some (.cmpHs (regOf m) (regOf n))
  | 0x3#4 => some (.cmpGe (regOf m) (regOf n))
  | 0x4#4 => some (.div1 (regOf m) (regOf n))
  | 0x5#4 => some (.dmuluL (regOf m) (regOf n))
  | 0x6#4 => some (.cmpHi (regOf m) (regOf n))
  | 0x7#4 => some (.cmpGt (regOf m) (regOf n))
  | 0x8#4 => some (.sub (regOf m) (regOf n))
  | 0xA#4 => some (.subc (regOf m) (regOf n))
  | 0xB#4 => some (.subv (regOf m) (regOf n))
  | 0xC#4 => some (.add (regOf m) (regOf n))
  | 0xD#4 => some (.dmulsL (regOf m) (regOf n))
  | 0xE#4 => some (.addc (regOf m) (regOf n))
  | 0xF#4 => some (.addv (regOf m) (regOf n))
  | _ => none

/-- Words with w[15:12] = 0100 (R95), by w[3:0] and w[7:4]. -/
def decode4 (n m d : BitVec 4) : Option Instr :=
  match d with
  | 0x0#4 =>
    match m with
    | 0x0#4 => some (.shll (regOf n))
    | 0x1#4 => some (.dt (regOf n))
    | 0x2#4 => some (.shal (regOf n))
    | _ => none
  | 0x1#4 =>
    match m with
    | 0x0#4 => some (.shlr (regOf n))
    | 0x1#4 => some (.cmpPz (regOf n))
    | 0x2#4 => some (.shar (regOf n))
    | _ => none
  | 0x2#4 =>
    match m with
    | 0x0#4 => some (.stsLMach (regOf n))
    | 0x1#4 => some (.stsLMacl (regOf n))
    | 0x2#4 => some (.stsLPr (regOf n))
    | _ => none
  | 0x3#4 =>
    match m with
    | 0x0#4 => some (.stcLSr (regOf n))
    | 0x1#4 => some (.stcLGbr (regOf n))
    | 0x2#4 => some (.stcLVbr (regOf n))
    | 0x3#4 => some (.stcLSsr (regOf n))
    | 0x4#4 => some (.stcLSpc (regOf n))
    | _ => if m.getLsbD 3 then some (.stcLBank (bankRegOf m) (regOf n)) else none
  | 0x4#4 =>
    match m with
    | 0x0#4 => some (.rotl (regOf n))
    | 0x2#4 => some (.rotcl (regOf n))
    | _ => none
  | 0x5#4 =>
    match m with
    | 0x0#4 => some (.rotr (regOf n))
    | 0x1#4 => some (.cmpPl (regOf n))
    | 0x2#4 => some (.rotcr (regOf n))
    | _ => none
  | 0x6#4 =>
    match m with
    | 0x0#4 => some (.ldsLMach (regOf n))
    | 0x1#4 => some (.ldsLMacl (regOf n))
    | 0x2#4 => some (.ldsLPr (regOf n))
    | _ => none
  | 0x7#4 =>
    match m with
    | 0x0#4 => some (.ldcLSr (regOf n))
    | 0x1#4 => some (.ldcLGbr (regOf n))
    | 0x2#4 => some (.ldcLVbr (regOf n))
    | 0x3#4 => some (.ldcLSsr (regOf n))
    | 0x4#4 => some (.ldcLSpc (regOf n))
    | _ => if m.getLsbD 3 then some (.ldcLBank (regOf n) (bankRegOf m)) else none
  | 0x8#4 =>
    match m with
    | 0x0#4 => some (.shll2 (regOf n))
    | 0x1#4 => some (.shll8 (regOf n))
    | 0x2#4 => some (.shll16 (regOf n))
    | _ => none
  | 0x9#4 =>
    match m with
    | 0x0#4 => some (.shlr2 (regOf n))
    | 0x1#4 => some (.shlr8 (regOf n))
    | 0x2#4 => some (.shlr16 (regOf n))
    | _ => none
  | 0xA#4 =>
    match m with
    | 0x0#4 => some (.ldsMach (regOf n))
    | 0x1#4 => some (.ldsMacl (regOf n))
    | 0x2#4 => some (.ldsPr (regOf n))
    | _ => none
  | 0xB#4 =>
    match m with
    | 0x0#4 => some (.jsr (regOf n))
    | 0x2#4 => some (.jmp (regOf n))
    | 0x1#4 => some (.tasB (regOf n))
    | _ => none
  | 0xC#4 => some (.shad (regOf m) (regOf n))
  | 0xD#4 => some (.shld (regOf m) (regOf n))
  | 0xE#4 =>
    match m with
    | 0x0#4 => some (.ldcSr (regOf n))
    | 0x1#4 => some (.ldcGbr (regOf n))
    | 0x2#4 => some (.ldcVbr (regOf n))
    | 0x3#4 => some (.ldcSsr (regOf n))
    | 0x4#4 => some (.ldcSpc (regOf n))
    | _ => if m.getLsbD 3 then some (.ldcBank (regOf n) (bankRegOf m)) else none
  | _ /- 0xF -/ => some (.macW (regOf m) (regOf n))

/-- Words with w[15:12] = 0101 (R95). -/
def decode5 (n m d : BitVec 4) : Option Instr :=
  some (.movLLoadDisp d (regOf m) (regOf n))

/-- Words with w[15:12] = 0110 (R95), by w[3:0]. -/
def decode6 (n m d : BitVec 4) : Option Instr :=
  match d with
  | 0x0#4 => some (.movBLoad (regOf m) (regOf n))
  | 0x1#4 => some (.movWLoad (regOf m) (regOf n))
  | 0x2#4 => some (.movLLoad (regOf m) (regOf n))
  | 0x3#4 => some (.mov (regOf m) (regOf n))
  | 0x4#4 => some (.movBLoadInc (regOf m) (regOf n))
  | 0x5#4 => some (.movWLoadInc (regOf m) (regOf n))
  | 0x6#4 => some (.movLLoadInc (regOf m) (regOf n))
  | 0x7#4 => some (.not (regOf m) (regOf n))
  | 0x8#4 => some (.swapB (regOf m) (regOf n))
  | 0x9#4 => some (.swapW (regOf m) (regOf n))
  | 0xA#4 => some (.negc (regOf m) (regOf n))
  | 0xB#4 => some (.neg (regOf m) (regOf n))
  | 0xC#4 => some (.extuB (regOf m) (regOf n))
  | 0xD#4 => some (.extuW (regOf m) (regOf n))
  | 0xE#4 => some (.extsB (regOf m) (regOf n))
  | _ /- 0xF -/ => some (.extsW (regOf m) (regOf n))

/-- Words with w[15:12] = 0111 (R95). -/
def decode7 (n m d : BitVec 4) : Option Instr :=
  some (.addImm (m ++ d) (regOf n))

/-- Words with w[15:12] = 1000 (R95), by w[11:8]. -/
def decode8 (n m d : BitVec 4) : Option Instr :=
  match n with
  | 0x0#4 => some (.movBStoreDisp d (regOf m))
  | 0x1#4 => some (.movWStoreDisp d (regOf m))
  | 0x4#4 => some (.movBLoadDisp d (regOf m))
  | 0x5#4 => some (.movWLoadDisp d (regOf m))
  | 0x8#4 => some (.cmpEqImm (m ++ d))
  | 0x9#4 => some (.bt (m ++ d))
  | 0xB#4 => some (.bf (m ++ d))
  | 0xD#4 => some (.btS (m ++ d))
  | 0xF#4 => some (.bfS (m ++ d))
  | _ => none

/-- Words with w[15:12] = 1001 (R95). -/
def decode9 (n m d : BitVec 4) : Option Instr :=
  some (.movWPc (m ++ d) (regOf n))

/-- Words with w[15:12] = 1010 (R95). -/
def decodeA (n m d : BitVec 4) : Option Instr :=
  some (.bra (n ++ m ++ d))

/-- Words with w[15:12] = 1011 (R95). -/
def decodeB (n m d : BitVec 4) : Option Instr :=
  some (.bsr (n ++ m ++ d))

/-- Words with w[15:12] = 1100 (R95), by w[11:8]. -/
def decodeC (n m d : BitVec 4) : Option Instr :=
  match n with
  | 0x0#4 => some (.movBStoreGbr (m ++ d))
  | 0x1#4 => some (.movWStoreGbr (m ++ d))
  | 0x2#4 => some (.movLStoreGbr (m ++ d))
  | 0x3#4 => some (.trapa (m ++ d))
  | 0x4#4 => some (.movBLoadGbr (m ++ d))
  | 0x5#4 => some (.movWLoadGbr (m ++ d))
  | 0x6#4 => some (.movLLoadGbr (m ++ d))
  | 0x7#4 => some (.mova (m ++ d))
  | 0x8#4 => some (.tstImm (m ++ d))
  | 0x9#4 => some (.andImm (m ++ d))
  | 0xA#4 => some (.xorImm (m ++ d))
  | 0xB#4 => some (.orImm (m ++ d))
  | 0xC#4 => some (.tstB (m ++ d))
  | 0xD#4 => some (.andB (m ++ d))
  | 0xE#4 => some (.xorB (m ++ d))
  | _ /- 0xF -/ => some (.orB (m ++ d))

/-- Words with w[15:12] = 1101 (R95). -/
def decodeD (n m d : BitVec 4) : Option Instr :=
  some (.movLPc (m ++ d) (regOf n))

/-- Words with w[15:12] = 1110 (R95). -/
def decodeE (n m d : BitVec 4) : Option Instr :=
  some (.movImm (m ++ d) (regOf n))

/-- Decoding by the top four bits (R95); no SH-3 instruction has w[15:12] = 1111 (R97). -/
def decodeNibbles (a n m d : BitVec 4) : Option Instr :=
  match a with
  | 0x0#4 => decode0 n m d
  | 0x1#4 => decode1 n m d
  | 0x2#4 => decode2 n m d
  | 0x3#4 => decode3 n m d
  | 0x4#4 => decode4 n m d
  | 0x5#4 => decode5 n m d
  | 0x6#4 => decode6 n m d
  | 0x7#4 => decode7 n m d
  | 0x8#4 => decode8 n m d
  | 0x9#4 => decode9 n m d
  | 0xA#4 => decodeA n m d
  | 0xB#4 => decodeB n m d
  | 0xC#4 => decodeC n m d
  | 0xD#4 => decodeD n m d
  | 0xE#4 => decodeE n m d
  | _ => none

/-- The instruction a 16-bit word stands for, or the name of why there is none (R95, R96). -/
def decode (w : Half) : Except DecodeError Instr :=
  match decodeNibbles (nibble w 3) (nibble w 2) (nibble w 1) (nibble w 0) with
  | some i => .ok i
  | none => .error (.reservedWord w)

/-- Decoding from bytes as they lie in memory: the first instruction and the bytes after it (R62, R99). -/
def decodeBytes (e : Endian) (bytes : List Byte) : Except DecodeError (Instr × List Byte) :=
  match bytes with
  | b0 :: b1 :: rest => (decode (e.join2 b0 b1)).map fun i => (i, rest)
  | _ => .error .tooShort

/-- The instruction the decoder reads from an instruction whose bits are w, laid out as the hardware stores it. -/
def decodeTableWord (nbits w : Nat) : Option Instr :=
  match decodeBytes .big (Endian.big.split2 (BitVec.ofNat 16 (w % 2 ^ nbits))) with
  | .ok (i, _) => some i
  | .error _ => none

/-! ## Encoding -/

/-- The field that names a register (R92). -/
def regField (r : Reg) : BitVec 4 := BitVec.ofFin r

/-- The field `1bbb` that names a back-bank register (R91, formats nb and mb). -/
def bankField (b : BankReg) : BitVec 4 := 1#1 ++ (BitVec.ofFin b : BitVec 3)

/-- Formats nm and nmd: opcode, n, m, and an opcode or a 4-bit displacement (R91). -/
def wordNM (a : BitVec 4) (n m : Reg) (d : BitVec 4) : Half := a ++ regField n ++ regField m ++ d

/-- Formats n and m: opcode, one register in bits 11:8, opcode (R91). -/
def wordN (a : BitVec 4) (n : Reg) (low : BitVec 8) : Half := a ++ regField n ++ low

/-- Formats md and nd4: opcode, one register in bits 7:4, 4-bit displacement (R91). -/
def wordD4 (top : BitVec 8) (m : Reg) (d : BitVec 4) : Half := top ++ regField m ++ d

/-- Formats nb and mb: opcode, register, back-bank register, opcode (R91). -/
def wordB (a : BitVec 4) (n : Reg) (b : BankReg) (d : BitVec 4) : Half := a ++ regField n ++ bankField b ++ d

/-- Formats d and i: opcode and an 8-bit displacement or immediate (R91). -/
def wordI (top i : BitVec 8) : Half := top ++ i

/-- Format d12: opcode and a 12-bit displacement (R91). -/
def wordD12 (a : BitVec 4) (d : BitVec 12) : Half := a ++ d

/-- The word of an instruction, as the `Encoding` line of its rule writes it. -/
def encode : Instr → Half
  | .movImm i n => wordN 0xE#4 n i
  | .movWPc d n => wordN 0x9#4 n d
  | .movLPc d n => wordN 0xD#4 n d
  | .mov m n => wordNM 0x6#4 n m 0x3#4
  | .movBStore m n => wordNM 0x2#4 n m 0x0#4
  | .movWStore m n => wordNM 0x2#4 n m 0x1#4
  | .movLStore m n => wordNM 0x2#4 n m 0x2#4
  | .movBLoad m n => wordNM 0x6#4 n m 0x0#4
  | .movWLoad m n => wordNM 0x6#4 n m 0x1#4
  | .movLLoad m n => wordNM 0x6#4 n m 0x2#4
  | .movBStoreDec m n => wordNM 0x2#4 n m 0x4#4
  | .movWStoreDec m n => wordNM 0x2#4 n m 0x5#4
  | .movLStoreDec m n => wordNM 0x2#4 n m 0x6#4
  | .movBLoadInc m n => wordNM 0x6#4 n m 0x4#4
  | .movWLoadInc m n => wordNM 0x6#4 n m 0x5#4
  | .movLLoadInc m n => wordNM 0x6#4 n m 0x6#4
  | .movBStoreDisp d n => wordD4 0x80#8 n d
  | .movWStoreDisp d n => wordD4 0x81#8 n d
  | .movLStoreDisp m d n => wordNM 0x1#4 n m d
  | .movBLoadDisp d m => wordD4 0x84#8 m d
  | .movWLoadDisp d m => wordD4 0x85#8 m d
  | .movLLoadDisp d m n => wordNM 0x5#4 n m d
  | .movBStoreIdx m n => wordNM 0x0#4 n m 0x4#4
  | .movWStoreIdx m n => wordNM 0x0#4 n m 0x5#4
  | .movLStoreIdx m n => wordNM 0x0#4 n m 0x6#4
  | .movBLoadIdx m n => wordNM 0x0#4 n m 0xC#4
  | .movWLoadIdx m n => wordNM 0x0#4 n m 0xD#4
  | .movLLoadIdx m n => wordNM 0x0#4 n m 0xE#4
  | .movBStoreGbr d => wordI 0xC0#8 d
  | .movWStoreGbr d => wordI 0xC1#8 d
  | .movLStoreGbr d => wordI 0xC2#8 d
  | .movBLoadGbr d => wordI 0xC4#8 d
  | .movWLoadGbr d => wordI 0xC5#8 d
  | .movLLoadGbr d => wordI 0xC6#8 d
  | .mova d => wordI 0xC7#8 d
  | .movt n => wordN 0x0#4 n 0x29#8
  | .swapB m n => wordNM 0x6#4 n m 0x8#4
  | .swapW m n => wordNM 0x6#4 n m 0x9#4
  | .xtrct m n => wordNM 0x2#4 n m 0xD#4
  | .add m n => wordNM 0x3#4 n m 0xC#4
  | .addImm i n => wordN 0x7#4 n i
  | .addc m n => wordNM 0x3#4 n m 0xE#4
  | .addv m n => wordNM 0x3#4 n m 0xF#4
  | .cmpEqImm i => wordI 0x88#8 i
  | .cmpEq m n => wordNM 0x3#4 n m 0x0#4
  | .cmpHs m n => wordNM 0x3#4 n m 0x2#4
  | .cmpGe m n => wordNM 0x3#4 n m 0x3#4
  | .cmpHi m n => wordNM 0x3#4 n m 0x6#4
  | .cmpGt m n => wordNM 0x3#4 n m 0x7#4
  | .cmpPz n => wordN 0x4#4 n 0x11#8
  | .cmpPl n => wordN 0x4#4 n 0x15#8
  | .cmpStr m n => wordNM 0x2#4 n m 0xC#4
  | .div0s m n => wordNM 0x2#4 n m 0x7#4
  | .div0u => 0x0019#16
  | .div1 m n => wordNM 0x3#4 n m 0x4#4
  | .dmulsL m n => wordNM 0x3#4 n m 0xD#4
  | .dmuluL m n => wordNM 0x3#4 n m 0x5#4
  | .mulL m n => wordNM 0x0#4 n m 0x7#4
  | .mulsW m n => wordNM 0x2#4 n m 0xF#4
  | .muluW m n => wordNM 0x2#4 n m 0xE#4
  | .macL m n => wordNM 0x0#4 n m 0xF#4
  | .macW m n => wordNM 0x4#4 n m 0xF#4
  | .neg m n => wordNM 0x6#4 n m 0xB#4
  | .negc m n => wordNM 0x6#4 n m 0xA#4
  | .sub m n => wordNM 0x3#4 n m 0x8#4
  | .subc m n => wordNM 0x3#4 n m 0xA#4
  | .subv m n => wordNM 0x3#4 n m 0xB#4
  | .dt n => wordN 0x4#4 n 0x10#8
  | .extsB m n => wordNM 0x6#4 n m 0xE#4
  | .extsW m n => wordNM 0x6#4 n m 0xF#4
  | .extuB m n => wordNM 0x6#4 n m 0xC#4
  | .extuW m n => wordNM 0x6#4 n m 0xD#4
  | .and m n => wordNM 0x2#4 n m 0x9#4
  | .andImm i => wordI 0xC9#8 i
  | .andB i => wordI 0xCD#8 i
  | .not m n => wordNM 0x6#4 n m 0x7#4
  | .or m n => wordNM 0x2#4 n m 0xB#4
  | .orImm i => wordI 0xCB#8 i
  | .orB i => wordI 0xCF#8 i
  | .tasB n => wordN 0x4#4 n 0x1B#8
  | .tst m n => wordNM 0x2#4 n m 0x8#4
  | .tstImm i => wordI 0xC8#8 i
  | .tstB i => wordI 0xCC#8 i
  | .xor m n => wordNM 0x2#4 n m 0xA#4
  | .xorImm i => wordI 0xCA#8 i
  | .xorB i => wordI 0xCE#8 i
  | .rotl n => wordN 0x4#4 n 0x04#8
  | .rotr n => wordN 0x4#4 n 0x05#8
  | .rotcl n => wordN 0x4#4 n 0x24#8
  | .rotcr n => wordN 0x4#4 n 0x25#8
  | .shal n => wordN 0x4#4 n 0x20#8
  | .shar n => wordN 0x4#4 n 0x21#8
  | .shad m n => wordNM 0x4#4 n m 0xC#4
  | .shll n => wordN 0x4#4 n 0x00#8
  | .shlr n => wordN 0x4#4 n 0x01#8
  | .shll2 n => wordN 0x4#4 n 0x08#8
  | .shll8 n => wordN 0x4#4 n 0x18#8
  | .shll16 n => wordN 0x4#4 n 0x28#8
  | .shlr2 n => wordN 0x4#4 n 0x09#8
  | .shlr8 n => wordN 0x4#4 n 0x19#8
  | .shlr16 n => wordN 0x4#4 n 0x29#8
  | .shld m n => wordNM 0x4#4 n m 0xD#4
  | .bf d => wordI 0x8B#8 d
  | .bfS d => wordI 0x8F#8 d
  | .bt d => wordI 0x89#8 d
  | .btS d => wordI 0x8D#8 d
  | .bra d => wordD12 0xA#4 d
  | .braf m => wordN 0x0#4 m 0x23#8
  | .bsr d => wordD12 0xB#4 d
  | .bsrf m => wordN 0x0#4 m 0x03#8
  | .jmp m => wordN 0x4#4 m 0x2B#8
  | .jsr m => wordN 0x4#4 m 0x0B#8
  | .rts => 0x000B#16
  | .clrmac => 0x0028#16
  | .clrs => 0x0048#16
  | .clrt => 0x0008#16
  | .sets => 0x0058#16
  | .sett => 0x0018#16
  | .nop => 0x0009#16
  | .ldcSr m => wordN 0x4#4 m 0x0E#8
  | .ldcGbr m => wordN 0x4#4 m 0x1E#8
  | .ldcVbr m => wordN 0x4#4 m 0x2E#8
  | .ldcSsr m => wordN 0x4#4 m 0x3E#8
  | .ldcSpc m => wordN 0x4#4 m 0x4E#8
  | .ldcLSr m => wordN 0x4#4 m 0x07#8
  | .ldcLGbr m => wordN 0x4#4 m 0x17#8
  | .ldcLVbr m => wordN 0x4#4 m 0x27#8
  | .ldcLSsr m => wordN 0x4#4 m 0x37#8
  | .ldcLSpc m => wordN 0x4#4 m 0x47#8
  | .ldcBank m b => wordB 0x4#4 m b 0xE#4
  | .ldcLBank m b => wordB 0x4#4 m b 0x7#4
  | .stcSr n => wordN 0x0#4 n 0x02#8
  | .stcGbr n => wordN 0x0#4 n 0x12#8
  | .stcVbr n => wordN 0x0#4 n 0x22#8
  | .stcSsr n => wordN 0x0#4 n 0x32#8
  | .stcSpc n => wordN 0x0#4 n 0x42#8
  | .stcLSr n => wordN 0x4#4 n 0x03#8
  | .stcLGbr n => wordN 0x4#4 n 0x13#8
  | .stcLVbr n => wordN 0x4#4 n 0x23#8
  | .stcLSsr n => wordN 0x4#4 n 0x33#8
  | .stcLSpc n => wordN 0x4#4 n 0x43#8
  | .stcBank b n => wordB 0x0#4 n b 0x2#4
  | .stcLBank b n => wordB 0x4#4 n b 0x3#4
  | .ldsMach m => wordN 0x4#4 m 0x0A#8
  | .ldsMacl m => wordN 0x4#4 m 0x1A#8
  | .ldsPr m => wordN 0x4#4 m 0x2A#8
  | .ldsLMach m => wordN 0x4#4 m 0x06#8
  | .ldsLMacl m => wordN 0x4#4 m 0x16#8
  | .ldsLPr m => wordN 0x4#4 m 0x26#8
  | .stsMach n => wordN 0x0#4 n 0x0A#8
  | .stsMacl n => wordN 0x0#4 n 0x1A#8
  | .stsPr n => wordN 0x0#4 n 0x2A#8
  | .stsLMach n => wordN 0x4#4 n 0x02#8
  | .stsLMacl n => wordN 0x4#4 n 0x12#8
  | .stsLPr n => wordN 0x4#4 n 0x22#8
  | .rte => 0x002B#16
  | .trapa i => wordI 0xC3#8 i
  | .sleep => 0x001B#16
  | .pref n => wordN 0x0#4 n 0x83#8
  | .ldtlb => 0x0038#16

/-! ## The opcode table as data -/

/-- One row of spec/opcode_table.json: the word w is of the row when `w &&& mask = bits` (R95). -/
structure OpcodeRow where
  mask : Half
  bits : Half
deriving DecidableEq, Repr

/-- The rows of 40_data_transfer.md. -/
def dataTransferRows : List OpcodeRow :=
  [⟨0xF000, 0xE000⟩, ⟨0xF000, 0x9000⟩, ⟨0xF000, 0xD000⟩, ⟨0xF00F, 0x6003⟩, ⟨0xF00F, 0x2000⟩,
   ⟨0xF00F, 0x2001⟩, ⟨0xF00F, 0x2002⟩, ⟨0xF00F, 0x6000⟩, ⟨0xF00F, 0x6001⟩, ⟨0xF00F, 0x6002⟩,
   ⟨0xF00F, 0x2004⟩, ⟨0xF00F, 0x2005⟩, ⟨0xF00F, 0x2006⟩, ⟨0xF00F, 0x6004⟩, ⟨0xF00F, 0x6005⟩,
   ⟨0xF00F, 0x6006⟩, ⟨0xFF00, 0x8000⟩, ⟨0xFF00, 0x8100⟩, ⟨0xF000, 0x1000⟩, ⟨0xFF00, 0x8400⟩,
   ⟨0xFF00, 0x8500⟩, ⟨0xF000, 0x5000⟩, ⟨0xF00F, 0x0004⟩, ⟨0xF00F, 0x0005⟩, ⟨0xF00F, 0x0006⟩,
   ⟨0xF00F, 0x000C⟩, ⟨0xF00F, 0x000D⟩, ⟨0xF00F, 0x000E⟩, ⟨0xFF00, 0xC000⟩, ⟨0xFF00, 0xC100⟩,
   ⟨0xFF00, 0xC200⟩, ⟨0xFF00, 0xC400⟩, ⟨0xFF00, 0xC500⟩, ⟨0xFF00, 0xC600⟩, ⟨0xFF00, 0xC700⟩,
   ⟨0xF0FF, 0x0029⟩, ⟨0xF00F, 0x6008⟩, ⟨0xF00F, 0x6009⟩, ⟨0xF00F, 0x200D⟩]

/-- The rows of 41_arithmetic.md. -/
def arithmeticRows : List OpcodeRow :=
  [⟨0xF00F, 0x300C⟩, ⟨0xF000, 0x7000⟩, ⟨0xF00F, 0x300E⟩, ⟨0xF00F, 0x300F⟩, ⟨0xFF00, 0x8800⟩,
   ⟨0xF00F, 0x3000⟩, ⟨0xF00F, 0x3002⟩, ⟨0xF00F, 0x3003⟩, ⟨0xF00F, 0x3006⟩, ⟨0xF00F, 0x3007⟩,
   ⟨0xF0FF, 0x4011⟩, ⟨0xF0FF, 0x4015⟩, ⟨0xF00F, 0x200C⟩, ⟨0xF00F, 0x2007⟩, ⟨0xFFFF, 0x0019⟩,
   ⟨0xF00F, 0x3004⟩, ⟨0xF00F, 0x300D⟩, ⟨0xF00F, 0x3005⟩, ⟨0xF00F, 0x0007⟩, ⟨0xF00F, 0x200F⟩,
   ⟨0xF00F, 0x200E⟩, ⟨0xF00F, 0x000F⟩, ⟨0xF00F, 0x400F⟩, ⟨0xF00F, 0x600B⟩, ⟨0xF00F, 0x600A⟩,
   ⟨0xF00F, 0x3008⟩, ⟨0xF00F, 0x300A⟩, ⟨0xF00F, 0x300B⟩, ⟨0xF0FF, 0x4010⟩, ⟨0xF00F, 0x600E⟩,
   ⟨0xF00F, 0x600F⟩, ⟨0xF00F, 0x600C⟩, ⟨0xF00F, 0x600D⟩]

/-- The rows of 42_logic.md. -/
def logicRows : List OpcodeRow :=
  [⟨0xF00F, 0x2009⟩, ⟨0xFF00, 0xC900⟩, ⟨0xFF00, 0xCD00⟩, ⟨0xF00F, 0x6007⟩, ⟨0xF00F, 0x200B⟩,
   ⟨0xFF00, 0xCB00⟩, ⟨0xFF00, 0xCF00⟩, ⟨0xF0FF, 0x401B⟩, ⟨0xF00F, 0x2008⟩, ⟨0xFF00, 0xC800⟩,
   ⟨0xFF00, 0xCC00⟩, ⟨0xF00F, 0x200A⟩, ⟨0xFF00, 0xCA00⟩, ⟨0xFF00, 0xCE00⟩]

/-- The rows of 43_shift.md. -/
def shiftRows : List OpcodeRow :=
  [⟨0xF0FF, 0x4004⟩, ⟨0xF0FF, 0x4005⟩, ⟨0xF0FF, 0x4024⟩, ⟨0xF0FF, 0x4025⟩, ⟨0xF0FF, 0x4020⟩,
   ⟨0xF0FF, 0x4021⟩, ⟨0xF00F, 0x400C⟩, ⟨0xF0FF, 0x4000⟩, ⟨0xF0FF, 0x4001⟩, ⟨0xF0FF, 0x4008⟩,
   ⟨0xF0FF, 0x4018⟩, ⟨0xF0FF, 0x4028⟩, ⟨0xF0FF, 0x4009⟩, ⟨0xF0FF, 0x4019⟩, ⟨0xF0FF, 0x4029⟩,
   ⟨0xF00F, 0x400D⟩]

/-- The rows of 44_branch.md. -/
def branchRows : List OpcodeRow :=
  [⟨0xFF00, 0x8B00⟩, ⟨0xFF00, 0x8F00⟩, ⟨0xFF00, 0x8900⟩, ⟨0xFF00, 0x8D00⟩, ⟨0xF000, 0xA000⟩,
   ⟨0xF0FF, 0x0023⟩, ⟨0xF000, 0xB000⟩, ⟨0xF0FF, 0x0003⟩, ⟨0xF0FF, 0x402B⟩, ⟨0xF0FF, 0x400B⟩,
   ⟨0xFFFF, 0x000B⟩]

/-- The rows of 45_system_control.md. -/
def systemControlRows : List OpcodeRow :=
  [⟨0xFFFF, 0x0028⟩, ⟨0xFFFF, 0x0048⟩, ⟨0xFFFF, 0x0008⟩, ⟨0xFFFF, 0x0058⟩, ⟨0xFFFF, 0x0018⟩,
   ⟨0xFFFF, 0x0009⟩, ⟨0xF0FF, 0x400E⟩, ⟨0xF0FF, 0x401E⟩, ⟨0xF0FF, 0x402E⟩, ⟨0xF0FF, 0x403E⟩,
   ⟨0xF0FF, 0x404E⟩, ⟨0xF0FF, 0x4007⟩, ⟨0xF0FF, 0x4017⟩, ⟨0xF0FF, 0x4027⟩, ⟨0xF0FF, 0x4037⟩,
   ⟨0xF0FF, 0x4047⟩, ⟨0xF08F, 0x408E⟩, ⟨0xF08F, 0x4087⟩, ⟨0xF0FF, 0x0002⟩, ⟨0xF0FF, 0x0012⟩,
   ⟨0xF0FF, 0x0022⟩, ⟨0xF0FF, 0x0032⟩, ⟨0xF0FF, 0x0042⟩, ⟨0xF0FF, 0x4003⟩, ⟨0xF0FF, 0x4013⟩,
   ⟨0xF0FF, 0x4023⟩, ⟨0xF0FF, 0x4033⟩, ⟨0xF0FF, 0x4043⟩, ⟨0xF08F, 0x0082⟩, ⟨0xF08F, 0x4083⟩,
   ⟨0xF0FF, 0x400A⟩, ⟨0xF0FF, 0x401A⟩, ⟨0xF0FF, 0x402A⟩, ⟨0xF0FF, 0x4006⟩, ⟨0xF0FF, 0x4016⟩,
   ⟨0xF0FF, 0x4026⟩, ⟨0xF0FF, 0x000A⟩, ⟨0xF0FF, 0x001A⟩, ⟨0xF0FF, 0x002A⟩, ⟨0xF0FF, 0x4002⟩,
   ⟨0xF0FF, 0x4012⟩, ⟨0xF0FF, 0x4022⟩, ⟨0xFFFF, 0x002B⟩, ⟨0xFF00, 0xC300⟩, ⟨0xFFFF, 0x001B⟩,
   ⟨0xF0FF, 0x0083⟩, ⟨0xFFFF, 0x0038⟩]

/-- The 160 rows of spec/opcode_table.json. -/
def opcodeRows : List OpcodeRow :=
  dataTransferRows ++ arithmeticRows ++ logicRows ++ shiftRows ++ branchRows ++ systemControlRows

end Sys2Proof
end

