-- ==== Sys2Proof/Config.lean ====
section
/-! DEFINITION. What the spec leaves open and the machine nevertheless goes on with: free values. Each is an opaque
constant, so nothing can be proved about its values and a statement holds whatever they are. -/

namespace Sys2Proof

/-- The values that a reset operation inside a run leaves in the registers whose reset value is unspecified
(10_state.md R44, R45; log 4), numbered by State's counter `freeCount`. -/
opaque Config.unspecified : Nat → Word

/-- Bits 63:48 of the result of `MAC.L` with S = 1, a function of the accumulator and the product
(41_arithmetic.md R195, D14; log 6). -/
opaque Config.macSaturatedHigh : BitVec 64 → BitVec 64 → BitVec 16

/-- Whether Rn keeps its increment when the second read of a `MAC` instruction raises an address error
(41_arithmetic.md R195, U10; log 7), numbered by State's counter `freeCount`. -/
opaque Config.macKeepsIncrement : Nat → Bool

/-- What the other agents on the bus make a byte of a location declared shared read as (20_memory.md R67, R69, D8; log 22),
numbered by State's counter `oracleCount` and by the physical address. -/
opaque Config.oracle : Nat → Nat → Byte

end Sys2Proof
end

