-- ==== Sys2Proof/Machine/State.lean ====
section
/-! DEFINITION. The state of the machine, the reasons a step can stop, the exceptions it can take, and the state after
reset (10_state.md, 60_exceptions.md, 70_reset_and_hazards.md R410). -/

namespace Sys2Proof.Machine

/-- Memory: the bytes that have a value, by physical address (20_memory.md R60, R65). Canonical form: addresses strictly
rising, and no entry equal to what an unlisted address reads as (Memory.wf in Machine/Ops.lean). -/
abbrev Memory := List Host.Cell

/-- The kind of a memory access (60_exceptions.md R361). -/
inductive AccessKind where
  | fetch
  | read
  | write
deriving DecidableEq, Repr

/-- The two resets, which differ only in the EXPEVT code (70_reset_and_hazards.md R410). -/
inductive ResetKind where
  | powerOn
  | manual
deriving DecidableEq, Repr

/-- The three event registers of the exception logic, mapped in P4 (60_exceptions.md R374). -/
inductive EventReg where
  | tra
  | expevt
  | intevt
deriving DecidableEq, Repr

/-- The general exceptions: requests raised by the instruction being executed (60_exceptions.md R360 to R364). -/
inductive Exc where
  /-- `AddressError(kind, addr)` (R361). -/
  | addressError (kind : AccessKind) (addr : Word)
  /-- General illegal instruction (R362). -/
  | reservedInstruction
  /-- Illegal slot instruction (R363). -/
  | illegalSlot
  /-- The unconditional trap of `TRAPA #imm` (R364). -/
  | trap (imm : Byte)
deriving DecidableEq, Repr

/-- Why the machine stops. -/
inductive Fault where
  /-- A byte of physical memory that nothing gave a value is read or fetched (92_eei_decisions.md D9, U2; log 3).
  Raised by every load and by instruction fetch. Safe: the hardware reads some byte and goes on. -/
  | unwrittenMemory (addr : Nat)
deriving DecidableEq, Repr

/-- Why the machine has no meaning for what is asked. -/
inductive Refusal where
  /-- An arm of `exec` that has no meaning yet. No arm raises it. Safe. -/
  | notModelled (mnemonic : String)
  /-- An access in P4 other than a longword access to TRA, EXPEVT or INTEVT: on-chip control registers that the spec
  does not describe (20_memory.md R72, 60_exceptions.md R392, D5; log 13). Raised by loads, stores and fetch. Safe. -/
  | p4Access (addr : Word)
  /-- A fetch from an address that a store of this run wrote, or that the launch declares shared with other agents, which
  store to it: the spec gives no rule for what is fetched (20_memory.md R71, D13; log 12). Raised by instruction fetch. Safe. -/
  | storedText (addr : Nat)
  /-- A PC-relative operand in a delay slot: the spec gives it no value (70_reset_and_hazards.md R427, 40_data_transfer.md
  R122, R123, R155, D10; log 10). Raised by `MOV.W @(disp,PC),Rn`, `MOV.L @(disp,PC),Rn` and `MOVA`. Safe. -/
  | slotPcRelative (pc : Word)
  /-- A write of the TLB in privileged mode: the spec describes neither the TLB nor the registers of the MMU
  (20_memory.md R66, R73, 45_system_control.md R307, D6; log 11). Raised by `LDTLB`. Safe. -/
  | tlbWrite
  /-- One register where an instruction takes two (m = n): `DIV1 Rn,Rn`, `MAC.L @Rn+,@Rn+` and `MAC.W @Rn+,@Rn+`, which the
  model refuses (41_arithmetic.md R186, R195, R196, D22; logs 8 and 9). Raised by `DIV1`, `MAC.L` and `MAC.W`. Safe. -/
  | sameRegister (n : Reg)
deriving DecidableEq, Repr

/-- What an access to memory comes to: a value, a general exception, or a stop. -/
inductive Access (α : Type) where
  | ok (value : α)
  | raises (e : Exc)
  | fault (f : Fault)
  | refused (r : Refusal)
deriving DecidableEq, Repr

/-- Where an address leads with translation off (20_memory.md R65, R72, D5). -/
inductive Place where
  /-- A byte of physical memory. -/
  | memory (addr : Nat)
  /-- An event register of P4. -/
  | event (r : EventReg)
deriving DecidableEq, Repr

/-- The state of the machine. Every register the spec gives the core is a field; so are the inputs that the environment
drives (`resetPin`, `nmi`, `level`, log 18) and what the launch declares (`endian`, `shared`, logs 2 and 22). Three fields
are the model's own: `storedTo` records what 20_memory.md R71 needs (log 12), `freeCount` numbers the free values (log 5),
and `oracleCount` the answers of the oracle (log 22). -/
structure State where
  /-- R0_BANK0 to R7_BANK0 (R23). -/
  bank0 : Vector Word 8
  /-- R0_BANK1 to R7_BANK1 (R23). -/
  bank1 : Vector Word 8
  /-- R8 to R15 (R21). -/
  high : Vector Word 8
  /-- The address of the instruction to execute (R40). -/
  pc : Word
  /-- The target of a pending delayed branch: while it is set, the instruction at pc is in a delay slot (R43, R260). -/
  slot : Option Word
  /-- The status register (R26). -/
  sr : Word
  gbr : Word
  vbr : Word
  ssr : Word
  spc : Word
  mach : Word
  macl : Word
  pr : Word
  tra : Word
  expevt : Word
  intevt : Word
  /-- Set by `SLEEP` (R43, R312). -/
  asleep : Bool
  /-- The reset request presented by the environment (R410). -/
  resetPin : Option ResetKind
  /-- The NMI request presented by the environment (R380). -/
  nmi : Bool
  /-- The level of the interrupt request presented by the environment, 0 for none (R380). -/
  level : Fin 16
  /-- The byte order, sampled at reset and fixed for the run (R61). -/
  endian : Endian
  mem : Memory
  /-- The physical addresses that stores of this run wrote, strictly rising (R71). -/
  storedTo : List Nat
  /-- The physical addresses of the locations that the launch declares shared with other agents, strictly rising (R69, D8). -/
  shared : List Nat
  /-- How many free values have been used. -/
  freeCount : Nat
  /-- The number of the answers that the oracle gives next to loads of shared locations. -/
  oracleCount : Nat
deriving DecidableEq, Repr

/-- The machine right after power-on reset (10_state.md R44, 70_reset_and_hazards.md R410). The values the spec leaves
unspecified are 0 (log 1), the byte order is the spec's default (log 2), no request is presented (log 18), and no location
is shared (log 22). -/
def State.reset : State where
  bank0 := Vector.replicate 8 0
  bank1 := Vector.replicate 8 0
  high := Vector.replicate 8 0
  pc := 0xA0000000
  slot := none
  sr := 0x700000F0
  gbr := 0
  vbr := 0
  ssr := 0
  spc := 0
  mach := 0
  macl := 0
  pr := 0
  tra := 0
  expevt := 0
  intevt := 0
  asleep := false
  resetPin := none
  nmi := false
  level := 0
  endian := .big
  mem := []
  storedTo := []
  shared := []
  freeCount := 0
  oracleCount := 0

end Sys2Proof.Machine
end

