-- ==== Sys2Proof/Machine/Flags.lean ====
section
/-! DEFINITION. The status register's fields and every flag computation of the spec (10_state.md R26 to R34,
41_arithmetic.md, 42_logic.md, 43_shift.md). Computations that report a carry, a borrow or an overflow compare the exact
integer with the 32-bit range, as their rules do. -/

namespace Sys2Proof.Machine

/-! ## The fields of SR -/

/-- The bits of SR that hold a field; the others read 0 and ignore writes (R34). -/
def srMask : Word := 0x700003F3

/-- MD, RB and BL, which exception entry sets (R370 step 3). -/
def srEntryBits : Word := 0x70000000

/-- SR.T (R27). -/
def State.flagT (s : State) : Bool := s.sr.getLsbD 0

/-- SR.S (R28). -/
def State.flagS (s : State) : Bool := s.sr.getLsbD 1

/-- SR.Q (R29). -/
def State.flagQ (s : State) : Bool := s.sr.getLsbD 8

/-- SR.M (R29). -/
def State.flagM (s : State) : Bool := s.sr.getLsbD 9

/-- SR.I3 to SR.I0, unsigned (R30). -/
def State.maskLevel (s : State) : Nat := (s.sr.extractLsb' 4 4).toNat

/-- SR.BL: exception requests are blocked (R33). -/
def State.blocked (s : State) : Bool := s.sr.getLsbD 28

/-- SR.RB (R32). -/
def State.rb (s : State) : Bool := s.sr.getLsbD 29

/-- SR.MD: privileged mode (R31). -/
def State.privileged (s : State) : Bool := s.sr.getLsbD 30

def State.setT (s : State) (b : Bool) : State := { s with sr := setBit s.sr 0 b }

def State.setS (s : State) (b : Bool) : State := { s with sr := setBit s.sr 1 b }

def State.setQ (s : State) (b : Bool) : State := { s with sr := setBit s.sr 8 b }

def State.setM (s : State) (b : Bool) : State := { s with sr := setBit s.sr 9 b }

/-- A read of the whole SR: its reserved bits read 0 (R34). -/
def State.srWord (s : State) : Word := s.sr &&& srMask

/-- A write of the whole SR: its reserved bits ignore the write (R34). -/
def State.setSr (s : State) (v : Word) : State := { s with sr := v &&& srMask }

/-! ## Addition and subtraction -/

/-- The carry out of `a + b + t` (R173). -/
def addCarry (a b : Word) (t : Bool) : Bool := decide (2 ^ 32 ≤ a.toNat + b.toNat + t.toNat)

/-- The borrow of `a - b - t` (R201, R203). -/
def subBorrow (a b : Word) (t : Bool) : Bool := decide ((a.toNat : Int) - b.toNat - t.toNat < 0)

/-- Whether an exact sum or difference lies outside the signed 32-bit range (R174, R204). -/
def signedOverflow (x : Int) : Bool := decide (x < -2 ^ 31 ∨ x > 2 ^ 31 - 1)

/-! ## Comparison -/

/-- `CMP/STR`: some byte of a equals the byte of b in the same place (R183). -/
def anyByteEqual (a b : Word) : Bool :=
  byteOf a 0 == byteOf b 0 || byteOf a 1 == byteOf b 1 || byteOf a 2 == byteOf b 2 || byteOf a 3 == byteOf b 3

/-! ## One step of division -/

/-- The dividend shifted left with T entering from the right (R186). -/
def divShifted (rn : Word) (t : Bool) : Word := (rn <<< 1) ||| zext1 t

/-- `DIV1` (R186): the new Rn, Q and T from Rn, the divisor, M, Q and T. -/
def divStep (rn divisor : Word) (m q t : Bool) : Word × Bool × Bool :=
  let a := divShifted rn t
  let r := if q = m then a - divisor else a + divisor
  let c := if q = m then decide (a.toNat < divisor.toNat) else decide (2 ^ 32 ≤ a.toNat + divisor.toNat)
  let q' := (rn.getLsbD 31).xor (c.xor m)
  (r, q', q' == m)

/-! ## Dynamic shifts -/

/-- The low five bits of the shift operand (R247, R256). -/
def shiftCount (rm : Word) : Nat := (rm.extractLsb' 0 5).toNat

/-- `SHAD` (R247). -/
def shiftArithmetic (rn rm : Word) : Word :=
  if rm.getLsbD 31 = false then rn <<< shiftCount rm
  else if shiftCount rm = 0 then (if rn.getLsbD 31 then 0xFFFFFFFF else 0)
  else rn.sshiftRight (32 - shiftCount rm)

/-- `SHLD` (R256). -/
def shiftLogical (rn rm : Word) : Word :=
  if rm.getLsbD 31 = false then rn <<< shiftCount rm
  else if shiftCount rm = 0 then 0
  else rn >>> (32 - shiftCount rm)

end Sys2Proof.Machine
end

