-- ==== Sys2Proof/Machine/Ops.lean ====
section
/-! DEFINITION. The named operations over registers and memory, how an instruction completes, exception entry, reset
operation, return from exception, and what happens between instructions (10_state.md, 20_memory.md, 44_branch.md R260,
60_exceptions.md, 70_reset_and_hazards.md). -/

namespace Sys2Proof.Machine

/-- What a meaning answers. -/
abbrev Result := Host.Outcome State Fault Refusal

/-! ## General registers -/

/-- Bank 1 is in front exactly in privileged mode with RB = 1 (R24). -/
def State.frontIsBank1 (s : State) : Bool := s.privileged && s.rb

/-- `R[r]` (R7, R24). -/
def State.reg (s : State) (r : Reg) : Word :=
  if h : r.val < 8 then
    if s.frontIsBank1 then s.bank1[r.val] else s.bank0[r.val]
  else s.high[r.val - 8]

/-- `R[r] <- v` (R7, R24). -/
def State.setReg (s : State) (r : Reg) (v : Word) : State :=
  if h : r.val < 8 then
    if s.frontIsBank1 then { s with bank1 := s.bank1.set r.val v } else { s with bank0 := s.bank0.set r.val v }
  else { s with high := s.high.set (r.val - 8) v }

/-- `Rbank[b]`: the register of the bank that is not in front (R24, R39). -/
def State.backReg (s : State) (b : BankReg) : Word :=
  if s.frontIsBank1 then s.bank0[b.val] else s.bank1[b.val]

/-- `Rbank[b] <- v` (R24, R39). -/
def State.setBackReg (s : State) (b : BankReg) (v : Word) : State :=
  if s.frontIsBank1 then { s with bank0 := s.bank0.set b.val v } else { s with bank1 := s.bank1.set b.val v }

/-- `MAC`, MACH on the more significant side (R7, R42). -/
def State.mac (s : State) : BitVec 64 := s.mach ++ s.macl

/-- `MAC <- v` (R42). -/
def State.setMac (s : State) (v : BitVec 64) : State :=
  { s with mach := v.extractLsb' 32 32, macl := v.extractLsb' 0 32 }

/-! ## Control and system registers -/

def State.setGbr (s : State) (v : Word) : State := { s with gbr := v }

def State.setVbr (s : State) (v : Word) : State := { s with vbr := v }

/-- All 32 bits are kept (R38). -/
def State.setSsr (s : State) (v : Word) : State := { s with ssr := v }

def State.setSpc (s : State) (v : Word) : State := { s with spc := v }

/-- All 32 bits are kept (R297, C1). -/
def State.setMach (s : State) (v : Word) : State := { s with mach := v }

def State.setMacl (s : State) (v : Word) : State := { s with macl := v }

def State.setPr (s : State) (v : Word) : State := { s with pr := v }

/-! ## Bytes of memory -/

/-- What a byte that nothing wrote reads as: no value (D9, U2; log 3). -/
def Memory.unlisted : Option Byte := none

/-- The entry of address a, if it is listed. -/
def Memory.find : Memory → Nat → Option Byte
  | [], _ => none
  | (x, b) :: rest, a => if x = a then some b else Memory.find rest a

/-- The byte at address a, if it has a value. -/
def Memory.read (m : Memory) (a : Nat) : Option Byte :=
  match m.find a with
  | some b => some b
  | none => Memory.unlisted

/-- Lists the byte b at address a, in its place. -/
def Memory.insert : Memory → Nat → Byte → Memory
  | [], a, b => [(a, b)]
  | (x, c) :: rest, a, b =>
    if a < x then (a, b) :: (x, c) :: rest
    else if a = x then (a, b) :: rest
    else (x, c) :: Memory.insert rest a b

/-- Takes address a off the list. -/
def Memory.erase : Memory → Nat → Memory
  | [], _ => []
  | (x, c) :: rest, a => if x = a then Memory.erase rest a else (x, c) :: Memory.erase rest a

/-- Writes one byte, keeping the canonical form. -/
def Memory.write (m : Memory) (a : Nat) (b : Byte) : Memory :=
  if Memory.unlisted = some b then m.erase a else m.insert a b

/-- Writes bytes at consecutive addresses. -/
def Memory.writeBytes (m : Memory) (a : Nat) : List Byte → Memory
  | [] => m
  | b :: bs => Memory.writeBytes (m.write a b) (a + 1) bs

/-- The number of bytes of physical memory (R65: 29 address bits). -/
def Memory.size : Nat := 2 ^ 29

/-- The canonical form: addresses below the size and strictly rising, no entry equal to an unlisted byte. -/
def Memory.wf : Memory → Bool
  | [] => true
  | (a, b) :: rest =>
    decide (a < Memory.size) && decide (Memory.unlisted ≠ some b) && (rest.all fun c => decide (a < c.1)) &&
      Memory.wf rest

/-- Adds an address to a strictly rising list of addresses. -/
def addAddress : List Nat → Nat → List Nat
  | [], a => [a]
  | x :: rest, a => if a < x then a :: x :: rest else if a = x then x :: rest else x :: addAddress rest a

/-- Adds the n addresses from a on. -/
def addAddresses (l : List Nat) (a : Nat) : Nat → List Nat
  | 0 => l
  | n + 1 => addAddresses (addAddress l a) (a + 1) n

/-- The form of a list of addresses: below the size of memory and strictly rising. -/
def addressesWf : List Nat → Bool
  | [] => true
  | a :: rest => decide (a < Memory.size) && (rest.all fun x => decide (a < x)) && addressesWf rest

/-! ## Accesses -/

def Access.bind {α β : Type} (r : Access α) (k : α → Access β) : Access β :=
  match r with
  | .ok v => k v
  | .raises e => .raises e
  | .fault f => .fault f
  | .refused x => .refused x

def Access.map {α β : Type} (f : α → β) (r : Access α) : Access β := r.bind fun v => .ok (f v)

/-- The physical byte an address below P4 reaches (R65, D5). -/
def physical (a : Word) : Nat := (a &&& 0x1FFFFFFF).toNat

/-- The event register at an address of P4 (R374, D20). -/
def eventRegAt (a : Word) : Option EventReg :=
  if a = 0xFFFFFFD0 then some .tra
  else if a = 0xFFFFFFD4 then some .expevt
  else if a = 0xFFFFFFD8 then some .intevt
  else none

/-- Whether an access of n bytes at a raises an address error: a is not a multiple of n (R63), or the mode is user and a is
at or above 0x80000000 (R65, R361). -/
def State.addressFails (s : State) (n : Nat) (a : Word) : Bool :=
  decide (a.toNat % n ≠ 0) || (!s.privileged && decide (0x80000000 ≤ a.toNat))

/-- Where an access of n bytes at a goes: first the checks of R63 and R65, then the address map (R65, R72, D5, D20). -/
def State.locate (s : State) (k : AccessKind) (n : Nat) (a : Word) : Access Place :=
  if s.addressFails n a then .raises (.addressError k a)
  else if a.toNat < 0xE0000000 then .ok (.memory (physical a))
  else if n = 4 then
    match eventRegAt a with
    | some r => .ok (.event r)
    | none => .refused (.p4Access a)
  else .refused (.p4Access a)

/-- What a byte of physical memory reads as, if anything: the oracle's answer where the launch declares the location shared,
else the latest store of this CPU (R67, R69, D8; log 22). -/
def State.readByte (s : State) (a : Nat) : Option Byte :=
  if a ∈ s.shared then some (Config.oracle s.oracleCount a) else s.mem.read a

/-- The loads that follow get answers of the oracle of their own (R69; log 22). -/
def State.nextAnswers (s : State) : State := { s with oracleCount := s.oracleCount + 1 }

/-- The byte at a physical address. -/
def State.byteAt (s : State) (a : Nat) : Access Byte :=
  match s.readByte a with
  | some b => .ok b
  | none => .fault (.unwrittenMemory a)

/-- An event register (R374). -/
def State.eventReg (s : State) : EventReg → Word
  | .tra => s.tra
  | .expevt => s.expevt
  | .intevt => s.intevt

/-- The bits of an event register that hold something; the others are 0 (R374). -/
def EventReg.mask : EventReg → Word
  | .tra => 0x3FC
  | .expevt => 0xFFF
  | .intevt => 0xFFF

/-- A write of an event register keeps the bits of its layout (R374; log 14). -/
def State.setEventReg (s : State) (r : EventReg) (v : Word) : State :=
  match r with
  | .tra => { s with tra := v &&& EventReg.tra.mask }
  | .expevt => { s with expevt := v &&& EventReg.expevt.mask }
  | .intevt => { s with intevt := v &&& EventReg.intevt.mask }

/-- `MemRead(a, 1)` (R7, R63). -/
def State.loadByte (s : State) (k : AccessKind) (a : Word) : Access Byte :=
  (s.locate k 1 a).bind fun p =>
    match p with
    | .memory x => s.byteAt x
    | .event _ => .refused (.p4Access a)

/-- `MemRead(a, 2)` (R7, R61, R63). -/
def State.loadWord (s : State) (k : AccessKind) (a : Word) : Access Half :=
  (s.locate k 2 a).bind fun p =>
    match p with
    | .memory x => (s.byteAt x).bind fun b0 => (s.byteAt (x + 1)).bind fun b1 => .ok (s.endian.join2 b0 b1)
    | .event _ => .refused (.p4Access a)

/-- `MemRead(a, 4)` (R7, R61, R63); in P4 an event register (R374). -/
def State.loadLong (s : State) (k : AccessKind) (a : Word) : Access Word :=
  (s.locate k 4 a).bind fun p =>
    match p with
    | .memory x =>
      (s.byteAt x).bind fun b0 => (s.byteAt (x + 1)).bind fun b1 => (s.byteAt (x + 2)).bind fun b2 =>
        (s.byteAt (x + 3)).bind fun b3 => .ok (s.endian.join4 b0 b1 b2 b3)
    | .event r => .ok (s.eventReg r)

/-- Stores bytes at consecutive physical addresses and records the addresses for R71 (log 12). -/
def State.storeBytes (s : State) (a : Nat) (bytes : List Byte) : State :=
  { s with mem := s.mem.writeBytes a bytes, storedTo := addAddresses s.storedTo a bytes.length }

/-- `MemWrite(a, 1, v)` (R7, R63). -/
def State.storeByte (s : State) (a : Word) (v : Byte) : Access State :=
  (s.locate .write 1 a).bind fun p =>
    match p with
    | .memory x => .ok (s.storeBytes x [v])
    | .event _ => .refused (.p4Access a)

/-- `MemWrite(a, 2, v)` (R7, R61, R63). -/
def State.storeWord (s : State) (a : Word) (v : Half) : Access State :=
  (s.locate .write 2 a).bind fun p =>
    match p with
    | .memory x => .ok (s.storeBytes x (s.endian.split2 v))
    | .event _ => .refused (.p4Access a)

/-- `MemWrite(a, 4, v)` (R7, R61, R63); in P4 an event register (R374). -/
def State.storeLong (s : State) (a : Word) (v : Word) : Access State :=
  (s.locate .write 4 a).bind fun p =>
    match p with
    | .memory x => .ok (s.storeBytes x (s.endian.split4 v))
    | .event r => .ok (s.setEventReg r v)

/-! ## Completing an instruction -/

/-- The instruction being executed is in a delay slot (R260). -/
def State.inSlot (s : State) : Bool := s.slot.isSome

/-- An instruction that writes no pc completes: the next one is at pc + 2, or at the target of the delayed branch whose
slot this is (R260). Every load completes so, and the next one gets answers of its own (R69). -/
def State.advance (s : State) : State :=
  match s.slot with
  | none => { s.nextAnswers with pc := s.pc + 2 }
  | some target => { s.nextAnswers with pc := target, slot := none }

/-- The answer of an instruction that completes in this state. -/
def State.done (s : State) : Result := .next s.advance

/-- A branch without a delay slot (R263, R265): the next instruction is at the target. -/
def State.jump (s : State) (target : Word) : Result := .next { s with pc := target }

/-- `delayed_branch(target)` (R260): the instruction at pc + 2 is next, and after it the one at the target. -/
def State.delayedBranch (s : State) (target : Word) : Result :=
  .next { s with pc := s.pc + 2, slot := some target }

/-! ## Reset operation -/

/-- Eight free values from number k on. -/
def freeRegisters (k : Nat) : Vector Word 8 := Vector.ofFn fun i => Config.unspecified (k + i.val)

/-- Reset operation (R410, R44) with the code that EXPEVT takes. The registers the spec leaves unspecified take free
values; SPC and SSR are not written; memory and the inputs are outside the core and stay (log 4). -/
def State.resetWith (s : State) (code : Word) : State :=
  let k := s.freeCount
  { s with
    bank0 := freeRegisters k
    bank1 := freeRegisters (k + 8)
    high := freeRegisters (k + 16)
    gbr := Config.unspecified (k + 24)
    mach := Config.unspecified (k + 25)
    macl := Config.unspecified (k + 26)
    pr := Config.unspecified (k + 27)
    tra := Config.unspecified (k + 28) &&& EventReg.tra.mask
    intevt := Config.unspecified (k + 29) &&& EventReg.intevt.mask
    sr := 0x700000F0 ||| (Config.unspecified (k + 30) &&& 0x00000303)
    pc := 0xA0000000
    vbr := 0
    expevt := code
    slot := none
    asleep := false
    freeCount := k + 31 }

/-- The EXPEVT code of a reset (R410). -/
def ResetKind.code : ResetKind → Word
  | .powerOn => 0x000
  | .manual => 0x020

/-- A reset request is accepted, whatever BL is (R410, R372 (a)). -/
def State.takeReset (s : State) (k : ResetKind) : State := { s.resetWith k.code with resetPin := none }

/-! ## Taking an exception and returning from one -/

/-- The EXPEVT code of a general exception (R361 to R364, R367). -/
def Exc.code : Exc → Word
  | .addressError .fetch _ => 0x0E0
  | .addressError .read _ => 0x0E0
  | .addressError .write _ => 0x100
  | .trap _ => 0x160
  | .reservedInstruction => 0x180
  | .illegalSlot => 0x1A0

/-- The value saved in SPC (R373): the instruction, the delayed branch when the instruction is in its slot, or for `TRAPA`
the instruction after it. -/
def State.savedPc (s : State) (e : Exc) : Word :=
  match e with
  | .trap _ => s.pc + 2
  | _ => if s.inSlot then s.pc - 2 else s.pc

/-- Exception entry (R370): steps 1, 2, 3 and 5; step 4 writes the event registers before it. -/
def State.enter (s : State) (saved offset : Word) : State :=
  { s with
    spc := saved
    ssr := s.srWord
    sr := s.srWord ||| srEntryBits
    slot := none
    asleep := false
    pc := s.vbr + offset }

/-- Step 4 of R370 for a general exception: EXPEVT takes the code, and TRA the immediate of `TRAPA` (R374). -/
def State.recordExc (s : State) (e : Exc) : State :=
  match e with
  | .trap imm => { s with expevt := e.code, tra := zext8 imm <<< 2 }
  | _ => { s with expevt := e.code }

/-- Entry of a general exception accepted with BL = 0, at VBR + 0x100 (R370, R371). -/
def State.enterExc (s : State) (e : Exc) : State := (s.recordExc e).enter (s.savedPc e) 0x100

/-- A general exception is requested: it is entered, or with BL = 1 becomes reset operation whose EXPEVT is the code of
the exception (R372 (c), D15; log 16). -/
def State.takeExc (s : State) (e : Exc) : State :=
  if s.blocked then s.resetWith e.code else s.enterExc e

/-- `raise e` (R7): the instruction is abandoned and the exception is taken. -/
def State.raise (s : State) (e : Exc) : Result := .next (s.takeExc e)

/-- Entry of an interrupt with its INTEVT code, at VBR + 0x600 (R370, R371, R380). -/
def State.enterInterrupt (s : State) (code : Word) : State := { s with intevt := code }.enter s.pc 0x600

/-- The return from an exception, as `RTE` does it (R322, R383): SR takes SSR at once, then a delayed branch to SPC. -/
def State.returnFromException (s : State) : Result := (s.setSr s.ssr).delayedBranch s.spc

/-- Continues with the value of an access; an exception is taken in the state s. -/
def Access.run {α : Type} (r : Access α) (s : State) (k : α → Result) : Result :=
  match r with
  | .ok v => k v
  | .raises e => s.raise e
  | .fault f => .fault f
  | .refused x => .refused x

/-- The exception of an instruction that may not be executed here: `IllegalSlot` in a delay slot, else
`ReservedInstruction` (R280, R96). -/
def State.illegalExc (s : State) : Exc := if s.inSlot then .illegalSlot else .reservedInstruction

/-- `not_in_slot()` (R262), then the rest of the instruction. -/
def State.notInSlot (s : State) (rest : Result) : Result := if s.inSlot then s.raise .illegalSlot else rest

/-- A PC-relative operand in a delay slot is refused and given no value (R122, R427, D10; log 10), else the rest of the
instruction. -/
def State.pcRelative (s : State) (rest : Result) : Result := if s.inSlot then .refused (.slotPcRelative s.pc) else rest

/-- One register in both operand fields is refused (R186, R195, R196, D22; logs 8 and 9), else the rest of the
instruction. -/
def distinctRegs (m n : Reg) (rest : Result) : Result := if m = n then .refused (.sameRegister n) else rest

/-- `privileged()` (R280), then the rest of the instruction. -/
def State.ifPrivileged (s : State) (rest : Result) : Result := if s.privileged then rest else s.raise s.illegalExc

/-- A word that is no instruction (R96). -/
def State.undefinedWord (s : State) : Result := s.raise s.illegalExc

/-! ## Between instructions -/

/-- The environment presents its requests (R43, R380, R410; log 18). -/
def State.present (s : State) (reset : Option ResetKind) (nmi : Bool) (level : Fin 16) : State :=
  { s with resetPin := reset, nmi := nmi, level := level }

/-- The INTEVT code of an external request of level L (R380). -/
def levelCode (level : Fin 16) : Word := BitVec.ofNat 32 (0x200 + 0x20 * (15 - level.val))

/-- Interrupt acceptance (R380): with BL = 0, NMI first, then a level above SR.I. NMI is cleared by acceptance (R381). -/
def State.acceptInterrupt (s : State) : Option State :=
  if s.blocked then none
  else if s.nmi then some { s.enterInterrupt 0x1C0 with nmi := false }
  else if s.maskLevel < s.level.val then some (s.enterInterrupt (levelCode s.level))
  else none

/-- What a step does instead of executing an instruction, if anything: a reset request first (R382), then an interrupt,
which is not accepted in a delay slot (R260, R380), then sleeping on (R312; log 19). -/
def State.beforeInstruction (s : State) : Option State :=
  match s.resetPin with
  | some k => some (s.takeReset k)
  | none =>
    match if s.inSlot then none else s.acceptInterrupt with
    | some t => some t
    | none => if s.asleep then some s else none

/-- Program text is fixed (R71, D13): no store of this run wrote to the address, and the launch does not declare it shared
with agents that do (log 12). -/
def State.isText (s : State) (a : Nat) : Bool := !decide (a ∈ s.storedTo) && !decide (a ∈ s.shared)

/-- Instruction fetch (R62): `MemRead(pc, 2)`, refused where no text stands (R71, D13). -/
def State.fetch (s : State) : Access Half :=
  (s.locate .fetch 2 s.pc).bind fun p =>
    match p with
    | .memory x =>
      if !s.isText x then .refused (.storedText x)
      else if !s.isText (x + 1) then .refused (.storedText (x + 1))
      else s.loadWord .fetch s.pc
    | .event _ => .refused (.p4Access s.pc)

/-- The launch declares n bytes of physical memory from a on shared with other agents (R69, D8; log 22). -/
def State.declareShared (s : State) (a n : Nat) : State := { s with shared := addAddresses s.shared a n }

/-- The program load that places one instruction word at pc, as a launch does (R413, D21; log 20). The two bytes are
then text, neither stored to nor shared, and no request or sleep keeps the next step from fetching them. -/
def State.placeWord (s : State) (w : Half) : State :=
  { s with
    mem := s.mem.writeBytes (physical s.pc) (s.endian.split2 w)
    storedTo := s.storedTo.filter fun a => a ≠ physical s.pc && a ≠ physical s.pc + 1
    shared := s.shared.filter fun a => a ≠ physical s.pc && a ≠ physical s.pc + 1
    asleep := false
    resetPin := none
    nmi := false
    level := 0 }

end Sys2Proof.Machine
end

