-- ==== Sys2Proof/Machine/Operands.lean ====
section
/-! DEFINITION. Every operand form: effective addresses, PC-relative bases and branch targets (30_encoding.md R93, R94,
00_scope.md R8). -/

namespace Sys2Proof.Machine

/-- `@(disp,Rn)` and `@(disp,Rm)`: a 4-bit displacement, zero-extended and scaled by the access size (R94). -/
def State.eaDisp (s : State) (r : Reg) (d : BitVec 4) (scale : Word) : Word := s.reg r + zext4 d * scale

/-- `@(R0,Rn)` and `@(R0,Rm)` (R22, R143). -/
def State.eaIndexed (s : State) (r : Reg) : Word := s.reg r + s.reg 0

/-- `@(disp,GBR)`: an 8-bit displacement, zero-extended and scaled by the access size (R94). -/
def State.eaGbr (s : State) (d : BitVec 8) (scale : Word) : Word := s.gbr + zext8 d * scale

/-- `@(R0,GBR)` (R220). -/
def State.eaGbrIndexed (s : State) : Word := s.gbr + s.reg 0

/-- The PC an instruction sees as an operand: pc + 4 (R40). In a delay slot no instruction sees one (D10; log 10). -/
def State.pcOperand (s : State) : Word := s.pc + 4

/-- `@(disp,PC)` of a word load (R122). -/
def State.eaPcWord (s : State) (d : BitVec 8) : Word := s.pcOperand + zext8 d * 2

/-- `@(disp,PC)` of a longword load and of `MOVA`: the low two bits of the base are dropped (R123, R155). -/
def State.eaPcLong (s : State) (d : BitVec 8) : Word := (s.pcOperand &&& 0xFFFFFFFC) + zext8 d * 4

/-- The target of a conditional branch (R94, R263). -/
def State.target8 (s : State) (d : BitVec 8) : Word := s.pc + 4 + 2 * sext8 d

/-- The target of `BRA` and `BSR` (R94, R267). -/
def State.target12 (s : State) (d : BitVec 12) : Word := s.pc + 4 + 2 * sext12 d

/-! ## Operands that move an address register -/

/-- Loads into a register: `R[n] <- v` once the access has given v. -/
def State.loadInto (s : State) (v : Access Word) (n : Reg) : Result := v.run s fun x => (s.setReg n x).done

/-- `@Rm+` into a register: R[m] moves by the size, then `R[n] <- v`, so that with m = n the value wins (R134). -/
def State.loadIntoInc (s : State) (v : Access Word) (m n : Reg) (size : Word) : Result :=
  v.run s fun x => ((s.setReg m (s.reg m + size)).setReg n x).done

/-- A store that completes the instruction. -/
def State.storeDone (s : State) (r : Access State) : Result := r.run s fun t => t.done

/-- `@-Rn`: after the store at ea, `R[n] <- ea` (R131). -/
def State.storeDec (s : State) (r : Access State) (n : Reg) (ea : Word) : Result := r.run s fun t => (t.setReg n ea).done

/-- `@-Rn` of a longword: `ea <- R[n] - 4; MemWrite(ea, 4, v); R[n] <- ea` (R133, R328 (d)). -/
def State.pushLong (s : State) (n : Reg) (v : Word) : Result :=
  s.storeDec (s.storeLong (s.reg n - 4) v) n (s.reg n - 4)

/-- `@Rm+` of a longword into a register that is no general register of the front bank: load, increment, then the
destination (R328 (d)). The rest gets the state after the increment. -/
def State.popLong (s : State) (m : Reg) (rest : State → Word → State) : Result :=
  (s.loadLong .read (s.reg m)).run s fun v => (rest (s.setReg m (s.reg m + 4)) v).done

/-- The read-modify-write of one byte, as one step (R68, R220 (b)): the byte f of the byte read is stored, in the state
that g makes of the byte read. -/
def State.modifyByte (s : State) (ea : Word) (f : Byte → Byte) (g : State → Byte → State) : Result :=
  (s.loadByte .read ea).run s fun v => (s.storeByte ea (f v)).run s fun t => (g t v).done

end Sys2Proof.Machine
end

