-- ==== Sys2Proof/Machine/Mac.lean ====
section
/-! DEFINITION. The operations the multiply and multiply-accumulate instructions share (41_arithmetic.md R195, R196). -/

namespace Sys2Proof.Machine

/-- x clamped to the range lo to hi. -/
def clamp (lo hi x : Int) : Int := if x < lo then lo else if hi < x then hi else x

/-- `MAC.L`'s accumulation of the product p: modulo 2^64, or with S = 1 the sum of p and bits 47:0 of MAC clamped to
48 bits, where bits 63:48 of the result are free (R195, D14; log 6). -/
def macLong (sat : Bool) (mac p : BitVec 64) : BitVec 64 :=
  if sat then
    Config.macSaturatedHigh mac p ++
      BitVec.ofInt 48 (clamp (-2 ^ 47) (2 ^ 47 - 1) ((mac.extractLsb' 0 48).toInt + p.toInt))
  else mac + p

/-- `MAC.W`'s accumulation of the product p: modulo 2^64, or with S = 1 the sum of p and MACL clamped to 32 bits, with bit
0 of MACH set on overflow (R196). -/
def macWord (sat : Bool) (mac : BitVec 64) (p : Int) : BitVec 64 :=
  if sat then
    let t := (mac.extractLsb' 0 32).toInt + p
    let high : Word := mac.extractLsb' 32 32
    (if signedOverflow t then high ||| 1 else high) ++ BitVec.ofInt 32 (clamp (-2 ^ 31) (2 ^ 31 - 1) t)
  else mac + BitVec.ofInt 64 p

/-- The two reads of `MAC` with their increments, Rn first, then the rest with the state after both (R195, R196, C12). They
are two accesses, so the oracle answers each by itself (R68). When the second read raises an exception it is taken with Rn
incremented or not, which is free (U10; log 7). -/
def State.macReads {w : Nat} (s : State) (load : State → Word → Access (BitVec w)) (size : Word) (m n : Reg)
    (rest : State → BitVec w → BitVec w → State) : Result :=
  (load s (s.reg n)).run s fun a =>
    let s0 := s.nextAnswers
    let s1 := s0.setReg n (s.reg n + size)
    match load s1 (s1.reg m) with
    | .ok b => (rest (s1.setReg m (s1.reg m + size)) a b).done
    | .raises e =>
      ({ (if Config.macKeepsIncrement s.freeCount then s1 else s0) with freeCount := s.freeCount + 1 } : State).raise e
    | .fault f => .fault f
    | .refused x => .refused x

end Sys2Proof.Machine
end

