-- ==== Sys2Proof/Machine/Arithmetic.lean ====
section
/-! DEFINITION. The arithmetic instructions (41_arithmetic.md R170 to R205), one meaning each. -/

namespace Sys2Proof.Machine

/-- `ADD Rm,Rn` (R171). -/
def execAdd (m : Reg) (n : Reg) (s : State) : Result :=
  (s.setReg n (s.reg n + s.reg m)).done

/-- `ADD #imm,Rn` (R172). -/
def execAddImm (i : BitVec 8) (n : Reg) (s : State) : Result :=
  (s.setReg n (s.reg n + sext8 i)).done

/-- `ADDC Rm,Rn` (R173). -/
def execAddc (m : Reg) (n : Reg) (s : State) : Result :=
  ((s.setReg n (s.reg n + s.reg m + zext1 s.flagT)).setT (addCarry (s.reg n) (s.reg m) s.flagT)).done

/-- `ADDV Rm,Rn` (R174). -/
def execAddv (m : Reg) (n : Reg) (s : State) : Result :=
  ((s.setReg n (s.reg n + s.reg m)).setT (signedOverflow ((s.reg n).toInt + (s.reg m).toInt))).done

/-- `CMP/EQ #imm,R0` (R175). -/
def execCmpEqImm (i : BitVec 8) (s : State) : Result :=
  (s.setT (s.reg 0 == sext8 i)).done

/-- `CMP/EQ Rm,Rn` (R176). -/
def execCmpEq (m : Reg) (n : Reg) (s : State) : Result :=
  (s.setT (s.reg n == s.reg m)).done

/-- `CMP/HS Rm,Rn` (R177). -/
def execCmpHs (m : Reg) (n : Reg) (s : State) : Result :=
  (s.setT (decide ((s.reg m).toNat ≤ (s.reg n).toNat))).done

/-- `CMP/GE Rm,Rn` (R178). -/
def execCmpGe (m : Reg) (n : Reg) (s : State) : Result :=
  (s.setT (decide ((s.reg m).toInt ≤ (s.reg n).toInt))).done

/-- `CMP/HI Rm,Rn` (R179). Unsigned (90_conflicts.md C4). -/
def execCmpHi (m : Reg) (n : Reg) (s : State) : Result :=
  (s.setT (decide ((s.reg m).toNat < (s.reg n).toNat))).done

/-- `CMP/GT Rm,Rn` (R180). -/
def execCmpGt (m : Reg) (n : Reg) (s : State) : Result :=
  (s.setT (decide ((s.reg m).toInt < (s.reg n).toInt))).done

/-- `CMP/PZ Rn` (R181). -/
def execCmpPz (n : Reg) (s : State) : Result :=
  (s.setT (!(s.reg n).getLsbD 31)).done

/-- `CMP/PL Rn` (R182). -/
def execCmpPl (n : Reg) (s : State) : Result :=
  (s.setT (!(s.reg n).getLsbD 31 && s.reg n != 0)).done

/-- `CMP/STR Rm,Rn` (R183). -/
def execCmpStr (m : Reg) (n : Reg) (s : State) : Result :=
  (s.setT (anyByteEqual (s.reg n) (s.reg m))).done

/-- `DIV0S Rm,Rn` (R184). -/
def execDiv0s (m : Reg) (n : Reg) (s : State) : Result :=
  let q := (s.reg n).getLsbD 31
  let m' := (s.reg m).getLsbD 31
  (((s.setQ q).setM m').setT (q.xor m')).done

/-- `DIV0U` (R185). -/
def execDiv0u (s : State) : Result :=
  (((s.setM false).setQ false).setT false).done

/-- `DIV1 Rm,Rn` (R186). `DIV1 Rn,Rn` is refused (D22; log 9). -/
def execDiv1 (m : Reg) (n : Reg) (s : State) : Result :=
  let x := divStep (s.reg n) (s.reg m) s.flagM s.flagQ s.flagT
  distinctRegs m n (((s.setReg n x.1).setQ x.2.1).setT x.2.2).done

/-- `DMULS.L Rm,Rn` (R188). -/
def execDmulsL (m : Reg) (n : Reg) (s : State) : Result :=
  (s.setMac (BitVec.ofInt 64 ((s.reg n).toInt * (s.reg m).toInt))).done

/-- `DMULU.L Rm,Rn` (R189). -/
def execDmuluL (m : Reg) (n : Reg) (s : State) : Result :=
  (s.setMac (BitVec.ofNat 64 ((s.reg n).toNat * (s.reg m).toNat))).done

/-- `MUL.L Rm,Rn` (R197). -/
def execMulL (m : Reg) (n : Reg) (s : State) : Result :=
  (s.setMacl (s.reg n * s.reg m)).done

/-- `MULS.W Rm,Rn` (R198). -/
def execMulsW (m : Reg) (n : Reg) (s : State) : Result :=
  (s.setMacl (sext16 (lowHalf (s.reg n)) * sext16 (lowHalf (s.reg m)))).done

/-- `MULU.W Rm,Rn` (R199). -/
def execMuluW (m : Reg) (n : Reg) (s : State) : Result :=
  (s.setMacl (zext16 (lowHalf (s.reg n)) * zext16 (lowHalf (s.reg m)))).done

/-- `MAC.L @Rm+,@Rn+` (R195). `MAC.L @Rn+,@Rn+` is refused before it reads (D22; log 8). -/
def execMacL (m : Reg) (n : Reg) (s : State) : Result :=
  distinctRegs m n <| s.macReads (fun t a => t.loadLong .read a) 4 m n fun t a b =>
    t.setMac (macLong t.flagS t.mac (BitVec.ofInt 64 (a.toInt * b.toInt)))

/-- `MAC.W @Rm+,@Rn+` (R196). `MAC.W @Rn+,@Rn+` is refused before it reads (D22; log 8). -/
def execMacW (m : Reg) (n : Reg) (s : State) : Result :=
  distinctRegs m n <| s.macReads (fun t a => t.loadWord .read a) 2 m n fun t a b =>
    t.setMac (macWord t.flagS t.mac (a.toInt * b.toInt))

/-- `NEG Rm,Rn` (R200). -/
def execNeg (m : Reg) (n : Reg) (s : State) : Result :=
  (s.setReg n (0 - s.reg m)).done

/-- `NEGC Rm,Rn` (R201). -/
def execNegc (m : Reg) (n : Reg) (s : State) : Result :=
  ((s.setReg n (0 - s.reg m - zext1 s.flagT)).setT (subBorrow 0 (s.reg m) s.flagT)).done

/-- `SUB Rm,Rn` (R202). -/
def execSub (m : Reg) (n : Reg) (s : State) : Result :=
  (s.setReg n (s.reg n - s.reg m)).done

/-- `SUBC Rm,Rn` (R203). -/
def execSubc (m : Reg) (n : Reg) (s : State) : Result :=
  ((s.setReg n (s.reg n - s.reg m - zext1 s.flagT)).setT (subBorrow (s.reg n) (s.reg m) s.flagT)).done

/-- `SUBV Rm,Rn` (R204). -/
def execSubv (m : Reg) (n : Reg) (s : State) : Result :=
  ((s.setReg n (s.reg n - s.reg m)).setT (signedOverflow ((s.reg n).toInt - (s.reg m).toInt))).done

/-- `DT Rn` (R190). -/
def execDt (n : Reg) (s : State) : Result :=
  ((s.setReg n (s.reg n - 1)).setT (s.reg n - 1 == 0)).done

/-- `EXTS.B Rm,Rn` (R191). -/
def execExtsB (m : Reg) (n : Reg) (s : State) : Result :=
  (s.setReg n (sext8 (lowByte (s.reg m)))).done

/-- `EXTS.W Rm,Rn` (R192). -/
def execExtsW (m : Reg) (n : Reg) (s : State) : Result :=
  (s.setReg n (sext16 (lowHalf (s.reg m)))).done

/-- `EXTU.B Rm,Rn` (R193). -/
def execExtuB (m : Reg) (n : Reg) (s : State) : Result :=
  (s.setReg n (zext8 (lowByte (s.reg m)))).done

/-- `EXTU.W Rm,Rn` (R194). -/
def execExtuW (m : Reg) (n : Reg) (s : State) : Result :=
  (s.setReg n (zext16 (lowHalf (s.reg m)))).done

end Sys2Proof.Machine
end

