-- ==== Sys2Proof/Machine/Branch.lean ====
section
/-! DEFINITION. The branch instructions (44_branch.md R260 to R276), one meaning each. -/

namespace Sys2Proof.Machine

/-- `BF label` (R263). -/
def execBf (d : BitVec 8) (s : State) : Result :=
  s.notInSlot (if s.flagT then s.jump (s.pc + 2) else s.jump (s.target8 d))

/-- `BF/S label` (R264). The condition is sampled at the branch; not taken, the next instruction is still a slot instruction (D17). -/
def execBfS (d : BitVec 8) (s : State) : Result :=
  s.notInSlot (s.delayedBranch (if s.flagT then s.pc + 4 else s.target8 d))

/-- `BT label` (R265). -/
def execBt (d : BitVec 8) (s : State) : Result :=
  s.notInSlot (if s.flagT then s.jump (s.target8 d) else s.jump (s.pc + 2))

/-- `BT/S label` (R266). The condition is sampled at the branch; not taken, the next instruction is still a slot instruction (D17). -/
def execBtS (d : BitVec 8) (s : State) : Result :=
  s.notInSlot (s.delayedBranch (if s.flagT then s.target8 d else s.pc + 4))

/-- `BRA label` (R267). -/
def execBra (d : BitVec 12) (s : State) : Result :=
  s.notInSlot (s.delayedBranch (s.target12 d))

/-- `BRAF Rm` (R268). -/
def execBraf (m : Reg) (s : State) : Result :=
  s.notInSlot (s.delayedBranch (s.pc + 4 + s.reg m))

/-- `BSR label` (R269). -/
def execBsr (d : BitVec 12) (s : State) : Result :=
  s.notInSlot ((s.setPr (s.pc + 4)).delayedBranch (s.target12 d))

/-- `BSRF Rm` (R270). -/
def execBsrf (m : Reg) (s : State) : Result :=
  s.notInSlot ((s.setPr (s.pc + 4)).delayedBranch (s.pc + 4 + s.reg m))

/-- `JMP @Rm` (R271). -/
def execJmp (m : Reg) (s : State) : Result :=
  s.notInSlot (s.delayedBranch (s.reg m))

/-- `JSR @Rm` (R272). The target is read before PR is written. -/
def execJsr (m : Reg) (s : State) : Result :=
  s.notInSlot ((s.setPr (s.pc + 4)).delayedBranch (s.reg m))

/-- `RTS` (R273). -/
def execRts (s : State) : Result :=
  s.notInSlot (s.delayedBranch s.pr)

end Sys2Proof.Machine
end

