-- ==== Sys2Proof/Machine/DataTransfer.lean ====
section
/-! DEFINITION. The data transfer instructions (40_data_transfer.md R120 to R159), one meaning each. -/

namespace Sys2Proof.Machine

/-- `MOV #imm,Rn` (R121). -/
def execMovImm (i : BitVec 8) (n : Reg) (s : State) : Result :=
  (s.setReg n (sext8 i)).done

/-- `MOV.W @(disp,PC),Rn` (R122). Refused in a delay slot (D10; log 10). -/
def execMovWPc (d : BitVec 8) (n : Reg) (s : State) : Result :=
  s.pcRelative (s.loadInto ((s.loadWord .read (s.eaPcWord d)).map sext16) n)

/-- `MOV.L @(disp,PC),Rn` (R123). Refused in a delay slot (D10; log 10). -/
def execMovLPc (d : BitVec 8) (n : Reg) (s : State) : Result :=
  s.pcRelative (s.loadInto (s.loadLong .read (s.eaPcLong d)) n)

/-- `MOV Rm,Rn` (R124). -/
def execMov (m : Reg) (n : Reg) (s : State) : Result :=
  (s.setReg n (s.reg m)).done

/-- `MOV.B Rm,@Rn` (R125). -/
def execMovBStore (m : Reg) (n : Reg) (s : State) : Result :=
  s.storeDone (s.storeByte (s.reg n) (lowByte (s.reg m)))

/-- `MOV.W Rm,@Rn` (R126). -/
def execMovWStore (m : Reg) (n : Reg) (s : State) : Result :=
  s.storeDone (s.storeWord (s.reg n) (lowHalf (s.reg m)))

/-- `MOV.L Rm,@Rn` (R127). -/
def execMovLStore (m : Reg) (n : Reg) (s : State) : Result :=
  s.storeDone (s.storeLong (s.reg n) (s.reg m))

/-- `MOV.B @Rm,Rn` (R128). -/
def execMovBLoad (m : Reg) (n : Reg) (s : State) : Result :=
  s.loadInto ((s.loadByte .read (s.reg m)).map sext8) n

/-- `MOV.W @Rm,Rn` (R129). -/
def execMovWLoad (m : Reg) (n : Reg) (s : State) : Result :=
  s.loadInto ((s.loadWord .read (s.reg m)).map sext16) n

/-- `MOV.L @Rm,Rn` (R130). -/
def execMovLLoad (m : Reg) (n : Reg) (s : State) : Result :=
  s.loadInto (s.loadLong .read (s.reg m)) n

/-- `MOV.B Rm,@-Rn` (R131). -/
def execMovBStoreDec (m : Reg) (n : Reg) (s : State) : Result :=
  s.storeDec (s.storeByte (s.reg n - 1) (lowByte (s.reg m))) n (s.reg n - 1)

/-- `MOV.W Rm,@-Rn` (R132). -/
def execMovWStoreDec (m : Reg) (n : Reg) (s : State) : Result :=
  s.storeDec (s.storeWord (s.reg n - 2) (lowHalf (s.reg m))) n (s.reg n - 2)

/-- `MOV.L Rm,@-Rn` (R133). -/
def execMovLStoreDec (m : Reg) (n : Reg) (s : State) : Result :=
  s.storeDec (s.storeLong (s.reg n - 4) (s.reg m)) n (s.reg n - 4)

/-- `MOV.B @Rm+,Rn` (R134). -/
def execMovBLoadInc (m : Reg) (n : Reg) (s : State) : Result :=
  s.loadIntoInc ((s.loadByte .read (s.reg m)).map sext8) m n 1

/-- `MOV.W @Rm+,Rn` (R135). -/
def execMovWLoadInc (m : Reg) (n : Reg) (s : State) : Result :=
  s.loadIntoInc ((s.loadWord .read (s.reg m)).map sext16) m n 2

/-- `MOV.L @Rm+,Rn` (R136). -/
def execMovLLoadInc (m : Reg) (n : Reg) (s : State) : Result :=
  s.loadIntoInc (s.loadLong .read (s.reg m)) m n 4

/-- `MOV.B R0,@(disp,Rn)` (R137). -/
def execMovBStoreDisp (d : BitVec 4) (n : Reg) (s : State) : Result :=
  s.storeDone (s.storeByte (s.eaDisp n d 1) (lowByte (s.reg 0)))

/-- `MOV.W R0,@(disp,Rn)` (R138). -/
def execMovWStoreDisp (d : BitVec 4) (n : Reg) (s : State) : Result :=
  s.storeDone (s.storeWord (s.eaDisp n d 2) (lowHalf (s.reg 0)))

/-- `MOV.L Rm,@(disp,Rn)` (R139). -/
def execMovLStoreDisp (m : Reg) (d : BitVec 4) (n : Reg) (s : State) : Result :=
  s.storeDone (s.storeLong (s.eaDisp n d 4) (s.reg m))

/-- `MOV.B @(disp,Rm),R0` (R140). -/
def execMovBLoadDisp (d : BitVec 4) (m : Reg) (s : State) : Result :=
  s.loadInto ((s.loadByte .read (s.eaDisp m d 1)).map sext8) 0

/-- `MOV.W @(disp,Rm),R0` (R141). -/
def execMovWLoadDisp (d : BitVec 4) (m : Reg) (s : State) : Result :=
  s.loadInto ((s.loadWord .read (s.eaDisp m d 2)).map sext16) 0

/-- `MOV.L @(disp,Rm),Rn` (R142). -/
def execMovLLoadDisp (d : BitVec 4) (m : Reg) (n : Reg) (s : State) : Result :=
  s.loadInto (s.loadLong .read (s.eaDisp m d 4)) n

/-- `MOV.B Rm,@(R0,Rn)` (R143). -/
def execMovBStoreIdx (m : Reg) (n : Reg) (s : State) : Result :=
  s.storeDone (s.storeByte (s.eaIndexed n) (lowByte (s.reg m)))

/-- `MOV.W Rm,@(R0,Rn)` (R144). -/
def execMovWStoreIdx (m : Reg) (n : Reg) (s : State) : Result :=
  s.storeDone (s.storeWord (s.eaIndexed n) (lowHalf (s.reg m)))

/-- `MOV.L Rm,@(R0,Rn)` (R145). -/
def execMovLStoreIdx (m : Reg) (n : Reg) (s : State) : Result :=
  s.storeDone (s.storeLong (s.eaIndexed n) (s.reg m))

/-- `MOV.B @(R0,Rm),Rn` (R146). -/
def execMovBLoadIdx (m : Reg) (n : Reg) (s : State) : Result :=
  s.loadInto ((s.loadByte .read (s.eaIndexed m)).map sext8) n

/-- `MOV.W @(R0,Rm),Rn` (R147). -/
def execMovWLoadIdx (m : Reg) (n : Reg) (s : State) : Result :=
  s.loadInto ((s.loadWord .read (s.eaIndexed m)).map sext16) n

/-- `MOV.L @(R0,Rm),Rn` (R148). -/
def execMovLLoadIdx (m : Reg) (n : Reg) (s : State) : Result :=
  s.loadInto (s.loadLong .read (s.eaIndexed m)) n

/-- `MOV.B R0,@(disp,GBR)` (R149). -/
def execMovBStoreGbr (d : BitVec 8) (s : State) : Result :=
  s.storeDone (s.storeByte (s.eaGbr d 1) (lowByte (s.reg 0)))

/-- `MOV.W R0,@(disp,GBR)` (R150). -/
def execMovWStoreGbr (d : BitVec 8) (s : State) : Result :=
  s.storeDone (s.storeWord (s.eaGbr d 2) (lowHalf (s.reg 0)))

/-- `MOV.L R0,@(disp,GBR)` (R151). -/
def execMovLStoreGbr (d : BitVec 8) (s : State) : Result :=
  s.storeDone (s.storeLong (s.eaGbr d 4) (s.reg 0))

/-- `MOV.B @(disp,GBR),R0` (R152). -/
def execMovBLoadGbr (d : BitVec 8) (s : State) : Result :=
  s.loadInto ((s.loadByte .read (s.eaGbr d 1)).map sext8) 0

/-- `MOV.W @(disp,GBR),R0` (R153). -/
def execMovWLoadGbr (d : BitVec 8) (s : State) : Result :=
  s.loadInto ((s.loadWord .read (s.eaGbr d 2)).map sext16) 0

/-- `MOV.L @(disp,GBR),R0` (R154). -/
def execMovLLoadGbr (d : BitVec 8) (s : State) : Result :=
  s.loadInto (s.loadLong .read (s.eaGbr d 4)) 0

/-- `MOVA @(disp,PC),R0` (R155). Refused in a delay slot (D10; log 10). -/
def execMova (d : BitVec 8) (s : State) : Result :=
  s.pcRelative (s.setReg 0 (s.eaPcLong d)).done

/-- `MOVT Rn` (R156). -/
def execMovt (n : Reg) (s : State) : Result :=
  (s.setReg n (zext1 s.flagT)).done

/-- `SWAP.B Rm,Rn` (R157). -/
def execSwapB (m : Reg) (n : Reg) (s : State) : Result :=
  (s.setReg n (highHalf (s.reg m) ++ byteOf (s.reg m) 0 ++ byteOf (s.reg m) 1)).done

/-- `SWAP.W Rm,Rn` (R158). -/
def execSwapW (m : Reg) (n : Reg) (s : State) : Result :=
  (s.setReg n (lowHalf (s.reg m) ++ highHalf (s.reg m))).done

/-- `XTRCT Rm,Rn` (R159). -/
def execXtrct (m : Reg) (n : Reg) (s : State) : Result :=
  (s.setReg n (lowHalf (s.reg m) ++ highHalf (s.reg n))).done

end Sys2Proof.Machine
end

