-- ==== Sys2Proof/Machine/Logic.lean ====
section
/-! DEFINITION. The logic instructions (42_logic.md R220 to R234), one meaning each. -/

namespace Sys2Proof.Machine

/-- `AND Rm,Rn` (R221). -/
def execAnd (m : Reg) (n : Reg) (s : State) : Result :=
  (s.setReg n (s.reg n &&& s.reg m)).done

/-- `AND #imm,R0` (R222). -/
def execAndImm (i : BitVec 8) (s : State) : Result :=
  (s.setReg 0 (s.reg 0 &&& zext8 i)).done

/-- `AND.B #imm,@(R0,GBR)` (R223). -/
def execAndB (i : BitVec 8) (s : State) : Result :=
  s.modifyByte s.eaGbrIndexed (fun v => v &&& i) fun t _ => t

/-- `NOT Rm,Rn` (R224). -/
def execNot (m : Reg) (n : Reg) (s : State) : Result :=
  (s.setReg n (~~~s.reg m)).done

/-- `OR Rm,Rn` (R225). -/
def execOr (m : Reg) (n : Reg) (s : State) : Result :=
  (s.setReg n (s.reg n ||| s.reg m)).done

/-- `OR #imm,R0` (R226). -/
def execOrImm (i : BitVec 8) (s : State) : Result :=
  (s.setReg 0 (s.reg 0 ||| zext8 i)).done

/-- `OR.B #imm,@(R0,GBR)` (R227). -/
def execOrB (i : BitVec 8) (s : State) : Result :=
  s.modifyByte s.eaGbrIndexed (fun v => v ||| i) fun t _ => t

/-- `TAS.B @Rn` (R228). The read-modify-write is one step; T tells whether the byte was zero. -/
def execTasB (n : Reg) (s : State) : Result :=
  s.modifyByte (s.reg n) (fun v => v ||| 0x80) fun t v => t.setT (v == 0)

/-- `TST Rm,Rn` (R229). -/
def execTst (m : Reg) (n : Reg) (s : State) : Result :=
  (s.setT (s.reg n &&& s.reg m == 0)).done

/-- `TST #imm,R0` (R230). -/
def execTstImm (i : BitVec 8) (s : State) : Result :=
  (s.setT (s.reg 0 &&& zext8 i == 0)).done

/-- `TST.B #imm,@(R0,GBR)` (R231). -/
def execTstB (i : BitVec 8) (s : State) : Result :=
  (s.loadByte .read s.eaGbrIndexed).run s fun v => (s.setT (v &&& i == 0)).done

/-- `XOR Rm,Rn` (R232). -/
def execXor (m : Reg) (n : Reg) (s : State) : Result :=
  (s.setReg n (s.reg n ^^^ s.reg m)).done

/-- `XOR #imm,R0` (R233). -/
def execXorImm (i : BitVec 8) (s : State) : Result :=
  (s.setReg 0 (s.reg 0 ^^^ zext8 i)).done

/-- `XOR.B #imm,@(R0,GBR)` (R234). -/
def execXorB (i : BitVec 8) (s : State) : Result :=
  s.modifyByte s.eaGbrIndexed (fun v => v ^^^ i) fun t _ => t

end Sys2Proof.Machine
end

