-- ==== Sys2Proof/Machine/Shift.lean ====
section
/-! DEFINITION. The shift and rotate instructions (43_shift.md R240 to R256), one meaning each. -/

namespace Sys2Proof.Machine

/-- `ROTL Rn` (R241). -/
def execRotl (n : Reg) (s : State) : Result :=
  ((s.setReg n ((s.reg n).extractLsb' 0 31 ++ (s.reg n).extractLsb' 31 1)).setT ((s.reg n).getLsbD 31)).done

/-- `ROTR Rn` (R242). -/
def execRotr (n : Reg) (s : State) : Result :=
  ((s.setReg n ((s.reg n).extractLsb' 0 1 ++ (s.reg n).extractLsb' 1 31)).setT ((s.reg n).getLsbD 0)).done

/-- `ROTCL Rn` (R243). -/
def execRotcl (n : Reg) (s : State) : Result :=
  ((s.setReg n ((s.reg n).extractLsb' 0 31 ++ BitVec.ofBool s.flagT)).setT ((s.reg n).getLsbD 31)).done

/-- `ROTCR Rn` (R244). -/
def execRotcr (n : Reg) (s : State) : Result :=
  ((s.setReg n (BitVec.ofBool s.flagT ++ (s.reg n).extractLsb' 1 31)).setT ((s.reg n).getLsbD 0)).done

/-- `SHAL Rn` (R245). -/
def execShal (n : Reg) (s : State) : Result :=
  ((s.setReg n ((s.reg n).extractLsb' 0 31 ++ 0#1)).setT ((s.reg n).getLsbD 31)).done

/-- `SHAR Rn` (R246). -/
def execShar (n : Reg) (s : State) : Result :=
  ((s.setReg n ((s.reg n).extractLsb' 31 1 ++ (s.reg n).extractLsb' 1 31)).setT ((s.reg n).getLsbD 0)).done

/-- `SHAD Rm,Rn` (R247). -/
def execShad (m : Reg) (n : Reg) (s : State) : Result :=
  (s.setReg n (shiftArithmetic (s.reg n) (s.reg m))).done

/-- `SHLL Rn` (R248). -/
def execShll (n : Reg) (s : State) : Result :=
  ((s.setReg n ((s.reg n).extractLsb' 0 31 ++ 0#1)).setT ((s.reg n).getLsbD 31)).done

/-- `SHLR Rn` (R249). -/
def execShlr (n : Reg) (s : State) : Result :=
  ((s.setReg n (0#1 ++ (s.reg n).extractLsb' 1 31)).setT ((s.reg n).getLsbD 0)).done

/-- `SHLL2 Rn` (R250). -/
def execShll2 (n : Reg) (s : State) : Result :=
  (s.setReg n (s.reg n <<< 2)).done

/-- `SHLL8 Rn` (R251). -/
def execShll8 (n : Reg) (s : State) : Result :=
  (s.setReg n (s.reg n <<< 8)).done

/-- `SHLL16 Rn` (R252). -/
def execShll16 (n : Reg) (s : State) : Result :=
  (s.setReg n (s.reg n <<< 16)).done

/-- `SHLR2 Rn` (R253). -/
def execShlr2 (n : Reg) (s : State) : Result :=
  (s.setReg n (s.reg n >>> 2)).done

/-- `SHLR8 Rn` (R254). -/
def execShlr8 (n : Reg) (s : State) : Result :=
  (s.setReg n (s.reg n >>> 8)).done

/-- `SHLR16 Rn` (R255). -/
def execShlr16 (n : Reg) (s : State) : Result :=
  (s.setReg n (s.reg n >>> 16)).done

/-- `SHLD Rm,Rn` (R256). -/
def execShld (m : Reg) (n : Reg) (s : State) : Result :=
  (s.setReg n (shiftLogical (s.reg n) (s.reg m))).done

end Sys2Proof.Machine
end

