-- ==== Sys2Proof/Machine/SystemControl.lean ====
section
/-! DEFINITION. The system control instructions (45_system_control.md R280 to R328), one meaning each. -/

namespace Sys2Proof.Machine

/-- `CLRMAC` (R281). -/
def execClrmac (s : State) : Result :=
  (s.setMac 0).done

/-- `CLRS` (R282). -/
def execClrs (s : State) : Result :=
  (s.setS false).done

/-- `CLRT` (R283). -/
def execClrt (s : State) : Result :=
  (s.setT false).done

/-- `SETS` (R284). -/
def execSets (s : State) : Result :=
  (s.setS true).done

/-- `SETT` (R285). -/
def execSett (s : State) : Result :=
  (s.setT true).done

/-- `NOP` (R286). -/
def execNop (s : State) : Result :=
  s.done

/-- `LDC Rm,SR` (R287). The value is read under the old SR (R424). -/
def execLdcSr (m : Reg) (s : State) : Result :=
  s.notInSlot (s.ifPrivileged (s.setSr (s.reg m)).done)

/-- `LDC Rm,GBR` (R288). -/
def execLdcGbr (m : Reg) (s : State) : Result :=
  (s.setGbr (s.reg m)).done

/-- `LDC Rm,VBR` (R289). -/
def execLdcVbr (m : Reg) (s : State) : Result :=
  s.ifPrivileged (s.setVbr (s.reg m)).done

/-- `LDC Rm,SSR` (R290). -/
def execLdcSsr (m : Reg) (s : State) : Result :=
  s.ifPrivileged (s.setSsr (s.reg m)).done

/-- `LDC Rm,SPC` (R291). -/
def execLdcSpc (m : Reg) (s : State) : Result :=
  s.ifPrivileged (s.setSpc (s.reg m)).done

/-- `LDC.L @Rm+,SR` (R292). The increment goes to the Rm visible before SR changes (D25). -/
def execLdcLSr (m : Reg) (s : State) : Result :=
  s.notInSlot (s.ifPrivileged (s.popLong m State.setSr))

/-- `LDC.L @Rm+,GBR` (R293). -/
def execLdcLGbr (m : Reg) (s : State) : Result :=
  s.popLong m State.setGbr

/-- `LDC.L @Rm+,VBR` (R294). -/
def execLdcLVbr (m : Reg) (s : State) : Result :=
  s.ifPrivileged (s.popLong m State.setVbr)

/-- `LDC.L @Rm+,SSR` (R295). -/
def execLdcLSsr (m : Reg) (s : State) : Result :=
  s.ifPrivileged (s.popLong m State.setSsr)

/-- `LDC.L @Rm+,SPC` (R296). -/
def execLdcLSpc (m : Reg) (s : State) : Result :=
  s.ifPrivileged (s.popLong m State.setSpc)

/-- `LDC Rm,Rb_BANK` (R300). -/
def execLdcBank (m : Reg) (b : BankReg) (s : State) : Result :=
  s.ifPrivileged (s.setBackReg b (s.reg m)).done

/-- `LDC.L @Rm+,Rb_BANK` (R301). -/
def execLdcLBank (m : Reg) (b : BankReg) (s : State) : Result :=
  s.ifPrivileged (s.popLong m fun t v => t.setBackReg b v)

/-- `STC SR,Rn` (R308). -/
def execStcSr (n : Reg) (s : State) : Result :=
  s.ifPrivileged (s.setReg n s.srWord).done

/-- `STC GBR,Rn` (R309). -/
def execStcGbr (n : Reg) (s : State) : Result :=
  (s.setReg n s.gbr).done

/-- `STC VBR,Rn` (R310). -/
def execStcVbr (n : Reg) (s : State) : Result :=
  s.ifPrivileged (s.setReg n s.vbr).done

/-- `STC SSR,Rn` (R313). -/
def execStcSsr (n : Reg) (s : State) : Result :=
  s.ifPrivileged (s.setReg n s.ssr).done

/-- `STC SPC,Rn` (R314). -/
def execStcSpc (n : Reg) (s : State) : Result :=
  s.ifPrivileged (s.setReg n s.spc).done

/-- `STC.L SR,@-Rn` (R315). -/
def execStcLSr (n : Reg) (s : State) : Result :=
  s.ifPrivileged (s.pushLong n s.srWord)

/-- `STC.L GBR,@-Rn` (R316). -/
def execStcLGbr (n : Reg) (s : State) : Result :=
  s.pushLong n s.gbr

/-- `STC.L VBR,@-Rn` (R317). -/
def execStcLVbr (n : Reg) (s : State) : Result :=
  s.ifPrivileged (s.pushLong n s.vbr)

/-- `STC.L SSR,@-Rn` (R318). -/
def execStcLSsr (n : Reg) (s : State) : Result :=
  s.ifPrivileged (s.pushLong n s.ssr)

/-- `STC.L SPC,@-Rn` (R319). -/
def execStcLSpc (n : Reg) (s : State) : Result :=
  s.ifPrivileged (s.pushLong n s.spc)

/-- `STC Rb_BANK,Rn` (R302). -/
def execStcBank (b : BankReg) (n : Reg) (s : State) : Result :=
  s.ifPrivileged (s.setReg n (s.backReg b)).done

/-- `STC.L Rb_BANK,@-Rn` (R303). -/
def execStcLBank (b : BankReg) (n : Reg) (s : State) : Result :=
  s.ifPrivileged (s.pushLong n (s.backReg b))

/-- `LDS Rm,MACH` (R297). -/
def execLdsMach (m : Reg) (s : State) : Result :=
  (s.setMach (s.reg m)).done

/-- `LDS Rm,MACL` (R298). -/
def execLdsMacl (m : Reg) (s : State) : Result :=
  (s.setMacl (s.reg m)).done

/-- `LDS Rm,PR` (R299). -/
def execLdsPr (m : Reg) (s : State) : Result :=
  (s.setPr (s.reg m)).done

/-- `LDS.L @Rm+,MACH` (R304). -/
def execLdsLMach (m : Reg) (s : State) : Result :=
  s.popLong m State.setMach

/-- `LDS.L @Rm+,MACL` (R305). -/
def execLdsLMacl (m : Reg) (s : State) : Result :=
  s.popLong m State.setMacl

/-- `LDS.L @Rm+,PR` (R306). -/
def execLdsLPr (m : Reg) (s : State) : Result :=
  s.popLong m State.setPr

/-- `STS MACH,Rn` (R320). -/
def execStsMach (n : Reg) (s : State) : Result :=
  (s.setReg n s.mach).done

/-- `STS MACL,Rn` (R321). -/
def execStsMacl (n : Reg) (s : State) : Result :=
  (s.setReg n s.macl).done

/-- `STS PR,Rn` (R323). -/
def execStsPr (n : Reg) (s : State) : Result :=
  (s.setReg n s.pr).done

/-- `STS.L MACH,@-Rn` (R324). -/
def execStsLMach (n : Reg) (s : State) : Result :=
  s.pushLong n s.mach

/-- `STS.L MACL,@-Rn` (R325). -/
def execStsLMacl (n : Reg) (s : State) : Result :=
  s.pushLong n s.macl

/-- `STS.L PR,@-Rn` (R326). -/
def execStsLPr (n : Reg) (s : State) : Result :=
  s.pushLong n s.pr

/-- `RTE` (R322). SR is restored before the slot instruction (D16; log 17). -/
def execRte (s : State) : Result :=
  s.notInSlot (s.ifPrivileged s.returnFromException)

/-- `TRAPA #imm` (R327). SPC, TRA and EXPEVT are written as R364 and R370 say. -/
def execTrapa (i : BitVec 8) (s : State) : Result :=
  s.notInSlot (s.raise (.trap i))

/-- `SLEEP` (R312). Sleep and standby are one state (D18; log 19). -/
def execSleep (s : State) : Result :=
  s.ifPrivileged { s with asleep := true }.done

/-- `PREF @Rn` (R311). A no-operation that raises nothing (D7). -/
def execPref (_n : Reg) (s : State) : Result :=
  s.done

/-- `LDTLB` (R307). In privileged mode the write of the TLB, which the spec does not describe, is refused (R66, R73, D6;
log 11). -/
def execLdtlb (s : State) : Result :=
  s.ifPrivileged (.refused .tlbWrite)

end Sys2Proof.Machine
end

