-- ==== Sys2Proof/Machine/Step.lean ====
section
/-! DEFINITION. One step of the machine (44_branch.md R260, 60_exceptions.md R380). -/

namespace Sys2Proof.Machine

/-- One step: a request or sleep is dealt with first; else the word at pc is fetched, decoded and executed, and a word that
is no instruction raises its exception (R96). The delay slot, pc + 2 and exceptions are the meanings' own. -/
def step (s : State) : Host.Outcome State Fault Refusal :=
  match s.beforeInstruction with
  | some t => .next t
  | none =>
    s.fetch.run s fun w =>
      match decode w with
      | .ok i => exec i s
      | .error _ => s.undefinedWord

/-- s with the instruction whose bits are w placed where the next step fetches it. -/
def State.withFetchWord (s : State) (nbits w : Nat) : State := s.placeWord (BitVec.ofNat 16 (w % 2 ^ nbits))

end Sys2Proof.Machine
end

