-- ==== Sys2Proof/WellFormed.lean ====
section
/-! DEFINITION. Where an instruction may stand, in which mode it may run, and which take two different registers. The operand
types of `Instr` hold exactly what their fields can hold, so these are all the checks the spec makes on an instruction by
itself (44_branch.md R262, 45_system_control.md R280, 41_arithmetic.md R186, R195, R196; log 23). -/

namespace Sys2Proof

/-- The instructions that may not stand in a delay slot (R262): every branch, `RTE`, `TRAPA`, `LDC Rm,SR` and
`LDC.L @Rm+,SR`. -/
def Instr.slotIllegal : Instr → Bool
  | .bf _ | .bfS _ | .bt _ | .btS _ | .bra _ | .braf _ | .bsr _ | .bsrf _ | .jmp _ | .jsr _ | .rts | .ldcSr _
  | .ldcLSr _ | .rte | .trapa _ => true
  | .movImm _ _ | .movWPc _ _ | .movLPc _ _ | .mov _ _ | .movBStore _ _ | .movWStore _ _ | .movLStore _ _
  | .movBLoad _ _ | .movWLoad _ _ | .movLLoad _ _ | .movBStoreDec _ _ | .movWStoreDec _ _ | .movLStoreDec _ _
  | .movBLoadInc _ _ | .movWLoadInc _ _ | .movLLoadInc _ _ | .movBStoreDisp _ _ | .movWStoreDisp _ _
  | .movLStoreDisp _ _ _ | .movBLoadDisp _ _ | .movWLoadDisp _ _ | .movLLoadDisp _ _ _ | .movBStoreIdx _ _
  | .movWStoreIdx _ _ | .movLStoreIdx _ _ | .movBLoadIdx _ _ | .movWLoadIdx _ _ | .movLLoadIdx _ _
  | .movBStoreGbr _ | .movWStoreGbr _ | .movLStoreGbr _ | .movBLoadGbr _ | .movWLoadGbr _ | .movLLoadGbr _
  | .mova _ | .movt _ | .swapB _ _ | .swapW _ _ | .xtrct _ _ | .add _ _ | .addImm _ _ | .addc _ _ | .addv _ _
  | .cmpEqImm _ | .cmpEq _ _ | .cmpHs _ _ | .cmpGe _ _ | .cmpHi _ _ | .cmpGt _ _ | .cmpPz _ | .cmpPl _
  | .cmpStr _ _ | .div0s _ _ | .div0u | .div1 _ _ | .dmulsL _ _ | .dmuluL _ _ | .mulL _ _ | .mulsW _ _
  | .muluW _ _ | .macL _ _ | .macW _ _ | .neg _ _ | .negc _ _ | .sub _ _ | .subc _ _ | .subv _ _ | .dt _
  | .extsB _ _ | .extsW _ _ | .extuB _ _ | .extuW _ _ | .and _ _ | .andImm _ | .andB _ | .not _ _ | .or _ _
  | .orImm _ | .orB _ | .tasB _ | .tst _ _ | .tstImm _ | .tstB _ | .xor _ _ | .xorImm _ | .xorB _ | .rotl _
  | .rotr _ | .rotcl _ | .rotcr _ | .shal _ | .shar _ | .shad _ _ | .shll _ | .shlr _ | .shll2 _ | .shll8 _
  | .shll16 _ | .shlr2 _ | .shlr8 _ | .shlr16 _ | .shld _ _ | .clrmac | .clrs | .clrt | .sets | .sett | .nop
  | .ldcGbr _ | .ldcVbr _ | .ldcSsr _ | .ldcSpc _ | .ldcLGbr _ | .ldcLVbr _ | .ldcLSsr _ | .ldcLSpc _
  | .ldcBank _ _ | .ldcLBank _ _ | .stcSr _ | .stcGbr _ | .stcVbr _ | .stcSsr _ | .stcSpc _ | .stcLSr _
  | .stcLGbr _ | .stcLVbr _ | .stcLSsr _ | .stcLSpc _ | .stcBank _ _ | .stcLBank _ _ | .ldsMach _ | .ldsMacl _
  | .ldsPr _ | .ldsLMach _ | .ldsLMacl _ | .ldsLPr _ | .stsMach _ | .stsMacl _ | .stsPr _ | .stsLMach _
  | .stsLMacl _ | .stsLPr _ | .sleep | .pref _ | .ldtlb => false

/-- The instructions with a PC-relative operand, which in a delay slot are outside the model (R262, R427, D10). -/
def Instr.pcRelative : Instr → Bool
  | .movWPc _ _ | .movLPc _ _ | .mova _ => true
  | .bf _ | .bfS _ | .bt _ | .btS _ | .bra _ | .braf _ | .bsr _ | .bsrf _ | .jmp _ | .jsr _ | .rts | .ldcSr _
  | .ldcLSr _ | .rte | .trapa _ | .movImm _ _ | .mov _ _ | .movBStore _ _ | .movWStore _ _ | .movLStore _ _
  | .movBLoad _ _ | .movWLoad _ _ | .movLLoad _ _ | .movBStoreDec _ _ | .movWStoreDec _ _ | .movLStoreDec _ _
  | .movBLoadInc _ _ | .movWLoadInc _ _ | .movLLoadInc _ _ | .movBStoreDisp _ _ | .movWStoreDisp _ _
  | .movLStoreDisp _ _ _ | .movBLoadDisp _ _ | .movWLoadDisp _ _ | .movLLoadDisp _ _ _ | .movBStoreIdx _ _
  | .movWStoreIdx _ _ | .movLStoreIdx _ _ | .movBLoadIdx _ _ | .movWLoadIdx _ _ | .movLLoadIdx _ _
  | .movBStoreGbr _ | .movWStoreGbr _ | .movLStoreGbr _ | .movBLoadGbr _ | .movWLoadGbr _ | .movLLoadGbr _
  | .movt _ | .swapB _ _ | .swapW _ _ | .xtrct _ _ | .add _ _ | .addImm _ _ | .addc _ _ | .addv _ _
  | .cmpEqImm _ | .cmpEq _ _ | .cmpHs _ _ | .cmpGe _ _ | .cmpHi _ _ | .cmpGt _ _ | .cmpPz _ | .cmpPl _
  | .cmpStr _ _ | .div0s _ _ | .div0u | .div1 _ _ | .dmulsL _ _ | .dmuluL _ _ | .mulL _ _ | .mulsW _ _
  | .muluW _ _ | .macL _ _ | .macW _ _ | .neg _ _ | .negc _ _ | .sub _ _ | .subc _ _ | .subv _ _ | .dt _
  | .extsB _ _ | .extsW _ _ | .extuB _ _ | .extuW _ _ | .and _ _ | .andImm _ | .andB _ | .not _ _ | .or _ _
  | .orImm _ | .orB _ | .tasB _ | .tst _ _ | .tstImm _ | .tstB _ | .xor _ _ | .xorImm _ | .xorB _ | .rotl _
  | .rotr _ | .rotcl _ | .rotcr _ | .shal _ | .shar _ | .shad _ _ | .shll _ | .shlr _ | .shll2 _ | .shll8 _
  | .shll16 _ | .shlr2 _ | .shlr8 _ | .shlr16 _ | .shld _ _ | .clrmac | .clrs | .clrt | .sets | .sett | .nop
  | .ldcGbr _ | .ldcVbr _ | .ldcSsr _ | .ldcSpc _ | .ldcLGbr _ | .ldcLVbr _ | .ldcLSsr _ | .ldcLSpc _
  | .ldcBank _ _ | .ldcLBank _ _ | .stcSr _ | .stcGbr _ | .stcVbr _ | .stcSsr _ | .stcSpc _ | .stcLSr _
  | .stcLGbr _ | .stcLVbr _ | .stcLSsr _ | .stcLSpc _ | .stcBank _ _ | .stcLBank _ _ | .ldsMach _ | .ldsMacl _
  | .ldsPr _ | .ldsLMach _ | .ldsLMacl _ | .ldsLPr _ | .stsMach _ | .stsMacl _ | .stsPr _ | .stsLMach _
  | .stsLMacl _ | .stsLPr _ | .sleep | .pref _ | .ldtlb => false

/-- One register where the instruction takes two: `DIV1 Rn,Rn`, `MAC.L @Rn+,@Rn+` and `MAC.W @Rn+,@Rn+`, which are outside
the model (R186, R195, R196, D22). -/
def Instr.sameRegister : Instr → Bool
  | .div1 m n | .macL m n | .macW m n => decide (m = n)
  | .bf _ | .bfS _ | .bt _ | .btS _ | .bra _ | .braf _ | .bsr _ | .bsrf _ | .jmp _ | .jsr _ | .rts | .ldcSr _
  | .ldcLSr _ | .rte | .trapa _ | .movImm _ _ | .movWPc _ _ | .movLPc _ _ | .mova _ | .mov _ _ | .movBStore _ _
  | .movWStore _ _ | .movLStore _ _ | .movBLoad _ _ | .movWLoad _ _ | .movLLoad _ _ | .movBStoreDec _ _
  | .movWStoreDec _ _ | .movLStoreDec _ _ | .movBLoadInc _ _ | .movWLoadInc _ _ | .movLLoadInc _ _
  | .movBStoreDisp _ _ | .movWStoreDisp _ _ | .movLStoreDisp _ _ _ | .movBLoadDisp _ _ | .movWLoadDisp _ _
  | .movLLoadDisp _ _ _ | .movBStoreIdx _ _ | .movWStoreIdx _ _ | .movLStoreIdx _ _ | .movBLoadIdx _ _
  | .movWLoadIdx _ _ | .movLLoadIdx _ _ | .movBStoreGbr _ | .movWStoreGbr _ | .movLStoreGbr _ | .movBLoadGbr _
  | .movWLoadGbr _ | .movLLoadGbr _ | .movt _ | .swapB _ _ | .swapW _ _ | .xtrct _ _ | .add _ _ | .addImm _ _
  | .addc _ _ | .addv _ _ | .cmpEqImm _ | .cmpEq _ _ | .cmpHs _ _ | .cmpGe _ _ | .cmpHi _ _ | .cmpGt _ _
  | .cmpPz _ | .cmpPl _ | .cmpStr _ _ | .div0s _ _ | .div0u | .dmulsL _ _ | .dmuluL _ _ | .mulL _ _ | .mulsW _ _
  | .muluW _ _ | .neg _ _ | .negc _ _ | .sub _ _ | .subc _ _ | .subv _ _ | .dt _ | .extsB _ _ | .extsW _ _
  | .extuB _ _ | .extuW _ _ | .and _ _ | .andImm _ | .andB _ | .not _ _ | .or _ _ | .orImm _ | .orB _ | .tasB _
  | .tst _ _ | .tstImm _ | .tstB _ | .xor _ _ | .xorImm _ | .xorB _ | .rotl _ | .rotr _ | .rotcl _ | .rotcr _
  | .shal _ | .shar _ | .shad _ _ | .shll _ | .shlr _ | .shll2 _ | .shll8 _ | .shll16 _ | .shlr2 _ | .shlr8 _
  | .shlr16 _ | .shld _ _ | .clrmac | .clrs | .clrt | .sets | .sett | .nop | .ldcGbr _ | .ldcVbr _ | .ldcSsr _
  | .ldcSpc _ | .ldcLGbr _ | .ldcLVbr _ | .ldcLSsr _ | .ldcLSpc _ | .ldcBank _ _ | .ldcLBank _ _ | .stcSr _
  | .stcGbr _ | .stcVbr _ | .stcSsr _ | .stcSpc _ | .stcLSr _ | .stcLGbr _ | .stcLVbr _ | .stcLSsr _ | .stcLSpc _
  | .stcBank _ _ | .stcLBank _ _ | .ldsMach _ | .ldsMacl _ | .ldsPr _ | .ldsLMach _ | .ldsLMacl _ | .ldsLPr _
  | .stsMach _ | .stsMacl _ | .stsPr _ | .stsLMach _ | .stsLMacl _ | .stsLPr _ | .sleep | .pref _ | .ldtlb => false

/-- The privileged instructions (R280): `LDC`, `LDC.L`, `STC` and `STC.L` of SR, VBR, SSR, SPC and the back bank, `LDTLB`,
`RTE` and `SLEEP`. -/
def Instr.privileged : Instr → Bool
  | .ldcSr _ | .ldcVbr _ | .ldcSsr _ | .ldcSpc _ | .ldcLSr _ | .ldcLVbr _ | .ldcLSsr _ | .ldcLSpc _
  | .ldcBank _ _ | .ldcLBank _ _ | .stcSr _ | .stcVbr _ | .stcSsr _ | .stcSpc _ | .stcLSr _ | .stcLVbr _
  | .stcLSsr _ | .stcLSpc _ | .stcBank _ _ | .stcLBank _ _ | .rte | .sleep | .ldtlb => true
  | .movImm _ _ | .movWPc _ _ | .movLPc _ _ | .mov _ _ | .movBStore _ _ | .movWStore _ _ | .movLStore _ _
  | .movBLoad _ _ | .movWLoad _ _ | .movLLoad _ _ | .movBStoreDec _ _ | .movWStoreDec _ _ | .movLStoreDec _ _
  | .movBLoadInc _ _ | .movWLoadInc _ _ | .movLLoadInc _ _ | .movBStoreDisp _ _ | .movWStoreDisp _ _
  | .movLStoreDisp _ _ _ | .movBLoadDisp _ _ | .movWLoadDisp _ _ | .movLLoadDisp _ _ _ | .movBStoreIdx _ _
  | .movWStoreIdx _ _ | .movLStoreIdx _ _ | .movBLoadIdx _ _ | .movWLoadIdx _ _ | .movLLoadIdx _ _
  | .movBStoreGbr _ | .movWStoreGbr _ | .movLStoreGbr _ | .movBLoadGbr _ | .movWLoadGbr _ | .movLLoadGbr _
  | .mova _ | .movt _ | .swapB _ _ | .swapW _ _ | .xtrct _ _ | .add _ _ | .addImm _ _ | .addc _ _ | .addv _ _
  | .cmpEqImm _ | .cmpEq _ _ | .cmpHs _ _ | .cmpGe _ _ | .cmpHi _ _ | .cmpGt _ _ | .cmpPz _ | .cmpPl _
  | .cmpStr _ _ | .div0s _ _ | .div0u | .div1 _ _ | .dmulsL _ _ | .dmuluL _ _ | .mulL _ _ | .mulsW _ _
  | .muluW _ _ | .macL _ _ | .macW _ _ | .neg _ _ | .negc _ _ | .sub _ _ | .subc _ _ | .subv _ _ | .dt _
  | .extsB _ _ | .extsW _ _ | .extuB _ _ | .extuW _ _ | .and _ _ | .andImm _ | .andB _ | .not _ _ | .or _ _
  | .orImm _ | .orB _ | .tasB _ | .tst _ _ | .tstImm _ | .tstB _ | .xor _ _ | .xorImm _ | .xorB _ | .rotl _
  | .rotr _ | .rotcl _ | .rotcr _ | .shal _ | .shar _ | .shad _ _ | .shll _ | .shlr _ | .shll2 _ | .shll8 _
  | .shll16 _ | .shlr2 _ | .shlr8 _ | .shlr16 _ | .shld _ _ | .bf _ | .bfS _ | .bt _ | .btS _ | .bra _
  | .braf _ | .bsr _ | .bsrf _ | .jmp _ | .jsr _ | .rts | .clrmac | .clrs | .clrt | .sets | .sett | .nop
  | .ldcGbr _ | .ldcLGbr _ | .stcGbr _ | .stcLGbr _ | .ldsMach _ | .ldsMacl _ | .ldsPr _ | .ldsLMach _
  | .ldsLMacl _ | .ldsLPr _ | .stsMach _ | .stsMacl _ | .stsPr _ | .stsLMach _ | .stsLMacl _ | .stsLPr _
  | .trapa _ | .pref _ => false

/-- An instruction is well formed in a place (in a delay slot or not) and a mode (privileged or user) if it may stand in
that place and run in that mode, and takes two registers where it must. Elsewhere it raises `IllegalSlot` or
`ReservedInstruction`, or is refused where it has a PC-relative operand in a slot or one register for two, and has no other
effect. -/
def WellFormed (inSlot inPrivileged : Bool) (i : Instr) : Bool :=
  !(inSlot && (i.slotIllegal || i.pcRelative)) && (inPrivileged || !i.privileged) && !i.sameRegister

end Sys2Proof
end

