-- ==== Sys2Proof/Safety.lean ====
section
/-! DEFINITION. The terms in which the statements about the machine are written: what an instruction leaves alone, when
it completes, which access it makes first, and the form of every state that a run reaches. -/

namespace Sys2Proof.Machine

/-! ## What an instruction leaves alone -/

/-- The control, system, event and back-bank registers (10_state.md R20, R39, 60_exceptions.md R374). -/
inductive Part where
  | gbr
  | vbr
  | ssr
  | spc
  | mach
  | macl
  | pr
  | tra
  | expevt
  | intevt
  | back (b : BankReg)
deriving DecidableEq, Repr

/-- The value of such a register. -/
def State.part (s : State) : Part → Word
  | .gbr => s.gbr
  | .vbr => s.vbr
  | .ssr => s.ssr
  | .spc => s.spc
  | .mach => s.mach
  | .macl => s.macl
  | .pr => s.pr
  | .tra => s.tra
  | .expevt => s.expevt
  | .intevt => s.intevt
  | .back b => s.backReg b

/-- From s to t only these have changed: the general registers `regs`, the SR bits `srBits`, the registers `parts` and the
bytes of memory at the physical addresses `bytes`, which are recorded as stored to. The pc and the slot may change, and the
count of the oracle's answers may rise. -/
structure Kept (regs : List Reg) (srBits : List Nat) (parts : List Part) (bytes : List Nat) (s t : State) : Prop where
  reg : ∀ r, r ∉ regs → t.reg r = s.reg r
  srBit : ∀ k, k ∉ srBits → t.sr.getLsbD k = s.sr.getLsbD k
  part : ∀ p, p ∉ parts → t.part p = s.part p
  byte : ∀ a, a ∉ bytes → t.mem.read a = s.mem.read a
  storedTo : ∀ a, a ∈ t.storedTo ↔ a ∈ s.storedTo ∨ a ∈ bytes
  asleep : t.asleep = s.asleep
  resetPin : t.resetPin = s.resetPin
  nmi : t.nmi = s.nmi
  level : t.level = s.level
  endian : t.endian = s.endian
  shared : t.shared = s.shared
  freeCount : t.freeCount = s.freeCount
  oracleCount : s.oracleCount ≤ t.oracleCount

/-- `pc <- pc + 2`, or in a delay slot `pc <- target; slot <- none` (44_branch.md R260), and the oracle answers the loads
that follow anew (20_memory.md R69). -/
def Completed (s t : State) : Prop :=
  t.pc = s.slot.getD (s.pc + 2) ∧ t.slot = none ∧ s.oracleCount < t.oracleCount

/-- The instruction completes: it answers a next state t with `post t`, and only what is listed has changed. -/
def Finishes (i : Instr) (s : State) (regs : List Reg) (srBits : List Nat) (parts : List Part) (bytes : List Nat)
    (post : State → Prop) : Prop :=
  ∃ t, exec i s = .next t ∧ post t ∧ Kept regs srBits parts bytes s t ∧ Completed s t

/-- The instruction takes the exception e and has no other effect (00_scope.md R7). -/
def Raises (i : Instr) (s : State) (e : Exc) : Prop := exec i s = .next (s.takeExc e)

/-- The word w is the instruction i, which writes v to Rn and changes nothing else. -/
def SetsReg (w : Half) (i : Instr) (s : State) (n : Reg) (v : Word) : Prop :=
  decode w = .ok i ∧ Finishes i s [n] [] [] [] fun t => t.reg n = v

/-- The word w is the instruction i, which writes v to Rn and b to T and changes nothing else. -/
def SetsRegT (w : Half) (i : Instr) (s : State) (n : Reg) (v : Word) (b : Bool) : Prop :=
  decode w = .ok i ∧ Finishes i s [n] [0] [] [] fun t => t.reg n = v ∧ t.flagT = b

/-- The word w is the instruction i, which writes b to T and changes nothing else. -/
def SetsT (w : Half) (i : Instr) (s : State) (b : Bool) : Prop :=
  decode w = .ok i ∧ Finishes i s [] [0] [] [] fun t => t.flagT = b

/-- The word w is the instruction i, which writes v to the register p and changes nothing else. -/
def SetsPart (w : Half) (i : Instr) (s : State) (p : Part) (v : Word) : Prop :=
  decode w = .ok i ∧ Finishes i s [] [] [p] [] fun t => t.part p = v

/-! ## Accesses to memory -/

/-- The physical address of the byte at an address below P4 (20_memory.md R65). -/
def place (ea : Word) : Nat := ea.toNat % 2 ^ 29

/-- The physical addresses of n bytes from p on. -/
def span (p n : Nat) : List Nat := (List.range n).map fun k => p + k

/-- An access of n bytes at ea raises an address error: misaligned, or user mode at or above 0x80000000 (R63, R361). -/
def State.BadAddress (s : State) (n : Nat) (ea : Word) : Prop :=
  ea.toNat % n ≠ 0 ∨ (s.privileged = false ∧ 0x80000000 ≤ ea.toNat)

/-- An access of n bytes at ea raises nothing and reaches memory: it is below P4 (R65). -/
def State.MayAccess (s : State) (n : Nat) (ea : Word) : Prop := ¬ s.BadAddress n ea ∧ ea.toNat < 0xE0000000

/-- A longword access at ea reaches the event register r: privileged, at its address (60_exceptions.md R374). -/
def State.ReachesEvent (s : State) (ea : Word) (r : EventReg) : Prop :=
  s.privileged = true ∧
    ((r = .tra ∧ ea = 0xFFFFFFD0) ∨ (r = .expevt ∧ ea = 0xFFFFFFD4) ∨ (r = .intevt ∧ ea = 0xFFFFFFD8))

/-- The number that bytes in memory order make in a byte order (R61). -/
def bytesValue (e : Endian) (bytes : List Byte) : Nat :=
  match e with
  | .big => bytes.foldl (fun v b => 256 * v + b.toNat) 0
  | .little => bytes.foldr (fun b v => b.toNat + 256 * v) 0

/-- The n bytes that `read` gives from address p on make the number v in a byte order. -/
def Spells (e : Endian) (read : Nat → Option Byte) (n p v : Nat) : Prop :=
  ∃ bytes : List Byte, bytes.length = n ∧ bytesValue e bytes = v ∧ ∀ k (h : k < bytes.length), read (p + k) = some bytes[k]

/-- The n bytes of memory from physical address p on hold the number v. -/
def State.Holds (s : State) (n p v : Nat) : Prop := Spells s.endian s.mem.read n p v

/-- The n bytes from physical address p on read as the number v: the oracle answers for shared locations, memory for the
others (20_memory.md R67, R69). -/
def State.Gives (s : State) (n p v : Nat) : Prop := Spells s.endian s.readByte n p v

/-- A read of n bytes at ea gives v: from memory or the oracle, or as a longword from an event register. -/
def State.Readable (s : State) (n : Nat) (ea : Word) (v : Nat) : Prop :=
  (s.MayAccess n ea ∧ s.Gives n (place ea) v) ∨
    (n = 4 ∧ ∃ r, s.ReachesEvent ea r ∧ v = (s.eventReg r).toNat)

/-- The word w is the instruction i, which loads `f v` into Rn for the n-byte value v at ea and changes nothing else, or
raises AddressError(read, ea). -/
def LoadsReg (w : Half) (i : Instr) (s : State) (size : Nat) (ea : Word) (n : Reg) (f : Nat → Word) : Prop :=
  decode w = .ok i ∧
    (∀ v, s.Readable size ea v → Finishes i s [n] [] [] [] fun t => t.reg n = f v) ∧
    (s.BadAddress size ea → Raises i s (.addressError .read ea))

/-- The word w is the instruction i, which stores the low `size` bytes of v at ea, makes `post` true of the registers `regs`
and changes nothing else, or raises AddressError(write, ea). -/
def StoresReg (w : Half) (i : Instr) (s : State) (size : Nat) (ea : Word) (v : Word) (regs : List Reg)
    (post : State → Prop) : Prop :=
  decode w = .ok i ∧
    (s.MayAccess size ea →
      Finishes i s regs [] [] (span (place ea) size) fun t =>
        t.Holds size (place ea) (v.toNat % 256 ^ size) ∧ post t) ∧
    (s.BadAddress size ea → Raises i s (.addressError .write ea))

/-- The register of `Part` that an event register is. -/
def EventReg.part : EventReg → Part
  | .tra => .tra
  | .expevt => .expevt
  | .intevt => .intevt

/-- The bits that the layout of an event register holds (60_exceptions.md R374). -/
def EventReg.layout : EventReg → Word
  | .tra => 0x000003FC
  | .expevt => 0x00000FFF
  | .intevt => 0x00000FFF

/-- When the longword address ea is that of an event register, the instruction i stores v there, of which the layout's bits
stay (log 14), makes `post` true of the registers `regs` and changes nothing else. -/
def StoresEvent (i : Instr) (s : State) (ea v : Word) (regs : List Reg) (post : State → Prop) : Prop :=
  ∀ r, s.ReachesEvent ea r →
    Finishes i s regs [] [r.part] [] fun t => t.eventReg r = v &&& r.layout ∧ post t

/-- The word w is the instruction i, a branch: the next pc is `next` with `slot` as the pending target, the registers `parts` get
`post` and nothing else changes; in a delay slot it raises IllegalSlot (44_branch.md R262). -/
def Branches (w : Half) (i : Instr) (s : State) (next : Word) (slot : Option Word) (parts : List Part)
    (post : State → Prop) : Prop :=
  decode w = .ok i ∧
    (s.slot = none →
      ∃ t, exec i s = .next t ∧ post t ∧ Kept [] [] parts [] s t ∧ t.pc = next ∧ t.slot = slot) ∧
    (s.slot ≠ none → Raises i s .illegalSlot)

/-- In privileged mode `p`; in user mode the instruction i raises ReservedInstruction, or IllegalSlot in a delay slot
(45_system_control.md R280). -/
def OnlyPrivileged (i : Instr) (s : State) (p : Prop) : Prop :=
  (s.privileged = true → p) ∧
    (s.privileged = false → Raises i s (if s.slot = none then .reservedInstruction else .illegalSlot))

/-- At s nothing comes before the next instruction: no reset request, no sleep, and no interrupt that is accepted
(60_exceptions.md R380, R382, 44_branch.md R260). -/
structure State.Undisturbed (s : State) : Prop where
  noReset : s.resetPin = none
  awake : s.asleep = false
  noInterrupt : s.slot ≠ none ∨ s.blocked = true ∨ (s.nmi = false ∧ s.level.val ≤ s.maskLevel)

/-- At s the next instruction word is w: nothing comes before it, and w stands at pc, at an address that no store of this
run wrote and that is not shared (20_memory.md R62, R71). -/
structure State.Fetches (s : State) (w : Half) : Prop where
  undisturbed : s.Undisturbed
  access : s.MayAccess 2 s.pc
  holds : s.Holds 2 (place s.pc) w.toNat
  text : ∀ a ∈ span (place s.pc) 2, s.isText a = true

/-- The access to memory that an instruction makes first: its kind, its size in bytes and its address. -/
def State.firstAccess (s : State) : Instr → Option (AccessKind × Nat × Word)
  | .movWPc d _ => some (.read, 2, s.eaPcWord d)
  | .movLPc d _ => some (.read, 4, s.eaPcLong d)
  | .movBStore _ n => some (.write, 1, s.reg n)
  | .movWStore _ n => some (.write, 2, s.reg n)
  | .movLStore _ n => some (.write, 4, s.reg n)
  | .movBLoad m _ => some (.read, 1, s.reg m)
  | .movWLoad m _ => some (.read, 2, s.reg m)
  | .movLLoad m _ => some (.read, 4, s.reg m)
  | .movBStoreDec _ n => some (.write, 1, s.reg n - 1)
  | .movWStoreDec _ n => some (.write, 2, s.reg n - 2)
  | .movLStoreDec _ n => some (.write, 4, s.reg n - 4)
  | .movBLoadInc m _ => some (.read, 1, s.reg m)
  | .movWLoadInc m _ => some (.read, 2, s.reg m)
  | .movLLoadInc m _ => some (.read, 4, s.reg m)
  | .movBStoreDisp d n => some (.write, 1, s.eaDisp n d 1)
  | .movWStoreDisp d n => some (.write, 2, s.eaDisp n d 2)
  | .movLStoreDisp _ d n => some (.write, 4, s.eaDisp n d 4)
  | .movBLoadDisp d m => some (.read, 1, s.eaDisp m d 1)
  | .movWLoadDisp d m => some (.read, 2, s.eaDisp m d 2)
  | .movLLoadDisp d m _ => some (.read, 4, s.eaDisp m d 4)
  | .movBStoreIdx _ n => some (.write, 1, s.eaIndexed n)
  | .movWStoreIdx _ n => some (.write, 2, s.eaIndexed n)
  | .movLStoreIdx _ n => some (.write, 4, s.eaIndexed n)
  | .movBLoadIdx m _ => some (.read, 1, s.eaIndexed m)
  | .movWLoadIdx m _ => some (.read, 2, s.eaIndexed m)
  | .movLLoadIdx m _ => some (.read, 4, s.eaIndexed m)
  | .movBStoreGbr d => some (.write, 1, s.eaGbr d 1)
  | .movWStoreGbr d => some (.write, 2, s.eaGbr d 2)
  | .movLStoreGbr d => some (.write, 4, s.eaGbr d 4)
  | .movBLoadGbr d => some (.read, 1, s.eaGbr d 1)
  | .movWLoadGbr d => some (.read, 2, s.eaGbr d 2)
  | .movLLoadGbr d => some (.read, 4, s.eaGbr d 4)
  | .macL _ n => some (.read, 4, s.reg n)
  | .macW _ n => some (.read, 2, s.reg n)
  | .andB _ => some (.read, 1, s.eaGbrIndexed)
  | .orB _ => some (.read, 1, s.eaGbrIndexed)
  | .tasB n => some (.read, 1, s.reg n)
  | .tstB _ => some (.read, 1, s.eaGbrIndexed)
  | .xorB _ => some (.read, 1, s.eaGbrIndexed)
  | .ldcLSr m => some (.read, 4, s.reg m)
  | .ldcLGbr m => some (.read, 4, s.reg m)
  | .ldcLVbr m => some (.read, 4, s.reg m)
  | .ldcLSsr m => some (.read, 4, s.reg m)
  | .ldcLSpc m => some (.read, 4, s.reg m)
  | .ldcLBank m _ => some (.read, 4, s.reg m)
  | .stcLSr n => some (.write, 4, s.reg n - 4)
  | .stcLGbr n => some (.write, 4, s.reg n - 4)
  | .stcLVbr n => some (.write, 4, s.reg n - 4)
  | .stcLSsr n => some (.write, 4, s.reg n - 4)
  | .stcLSpc n => some (.write, 4, s.reg n - 4)
  | .stcLBank _ n => some (.write, 4, s.reg n - 4)
  | .ldsLMach m => some (.read, 4, s.reg m)
  | .ldsLMacl m => some (.read, 4, s.reg m)
  | .ldsLPr m => some (.read, 4, s.reg m)
  | .stsLMach n => some (.write, 4, s.reg n - 4)
  | .stsLMacl n => some (.write, 4, s.reg n - 4)
  | .stsLPr n => some (.write, 4, s.reg n - 4)
  | .movImm _ _ | .mov _ _ | .mova _ | .movt _ | .swapB _ _ | .swapW _ _ | .xtrct _ _ | .add _ _ | .addImm _ _ |
    .addc _ _ | .addv _ _ | .cmpEqImm _ | .cmpEq _ _ | .cmpHs _ _ | .cmpGe _ _ | .cmpHi _ _ | .cmpGt _ _ |
    .cmpPz _ | .cmpPl _ | .cmpStr _ _ | .div0s _ _ | .div0u | .div1 _ _ | .dmulsL _ _ | .dmuluL _ _ | .mulL _ _ |
    .mulsW _ _ | .muluW _ _ | .neg _ _ | .negc _ _ | .sub _ _ | .subc _ _ | .subv _ _ | .dt _ | .extsB _ _ |
    .extsW _ _ | .extuB _ _ | .extuW _ _ | .and _ _ | .andImm _ | .not _ _ | .or _ _ | .orImm _ | .tst _ _ |
    .tstImm _ | .xor _ _ | .xorImm _ | .rotl _ | .rotr _ | .rotcl _ | .rotcr _ | .shal _ | .shar _ | .shad _ _ |
    .shll _ | .shlr _ | .shll2 _ | .shll8 _ | .shll16 _ | .shlr2 _ | .shlr8 _ | .shlr16 _ | .shld _ _ | .bf _ |
    .bfS _ | .bt _ | .btS _ | .bra _ | .braf _ | .bsr _ | .bsrf _ | .jmp _ | .jsr _ | .rts | .clrmac | .clrs |
    .clrt | .sets | .sett | .nop | .ldcSr _ | .ldcGbr _ | .ldcVbr _ | .ldcSsr _ | .ldcSpc _ | .ldcBank _ _ |
    .stcSr _ | .stcGbr _ | .stcVbr _ | .stcSsr _ | .stcSpc _ | .stcBank _ _ | .ldsMach _ | .ldsMacl _ | .ldsPr _ |
    .stsMach _ | .stsMacl _ | .stsPr _ | .rte | .trapa _ | .sleep | .pref _ | .ldtlb => none

/-! ## Which instructions write what -/

end Sys2Proof.Machine

namespace Sys2Proof

/-- The bits of SR that hold a field (R26). -/
def srFields : List Nat := [0, 1, 4, 5, 6, 7, 8, 9, 28, 29, 30]

/-- The bits of SR that an instruction writes when it completes (10_state.md R27 to R34). -/
def Instr.srBits : Instr → List Nat
  | .addc _ _ | .addv _ _ | .cmpEqImm _ | .cmpEq _ _ | .cmpHs _ _ | .cmpGe _ _ | .cmpHi _ _ | .cmpGt _ _ |
    .cmpPz _ | .cmpPl _ | .cmpStr _ _ | .negc _ _ | .subc _ _ | .subv _ _ | .dt _ | .tasB _ | .tst _ _ | .tstImm _ |
    .tstB _ | .rotl _ | .rotr _ | .rotcl _ | .rotcr _ | .shal _ | .shar _ | .shll _ | .shlr _ | .clrt | .sett => [0]
  | .clrs | .sets => [1]
  | .div0s _ _ | .div0u => [0, 8, 9]
  | .div1 _ _ => [0, 8]
  | .ldcSr _ | .ldcLSr _ | .rte => srFields
  | .movImm _ _ | .movWPc _ _ | .movLPc _ _ | .mov _ _ | .movBStore _ _ | .movWStore _ _ | .movLStore _ _ |
    .movBLoad _ _ | .movWLoad _ _ | .movLLoad _ _ | .movBStoreDec _ _ | .movWStoreDec _ _ | .movLStoreDec _ _ |
    .movBLoadInc _ _ | .movWLoadInc _ _ | .movLLoadInc _ _ | .movBStoreDisp _ _ | .movWStoreDisp _ _ |
    .movLStoreDisp _ _ _ | .movBLoadDisp _ _ | .movWLoadDisp _ _ | .movLLoadDisp _ _ _ | .movBStoreIdx _ _ |
    .movWStoreIdx _ _ | .movLStoreIdx _ _ | .movBLoadIdx _ _ | .movWLoadIdx _ _ | .movLLoadIdx _ _ |
    .movBStoreGbr _ | .movWStoreGbr _ | .movLStoreGbr _ | .movBLoadGbr _ | .movWLoadGbr _ | .movLLoadGbr _ |
    .mova _ | .movt _ | .swapB _ _ | .swapW _ _ | .xtrct _ _ | .add _ _ | .addImm _ _ | .dmulsL _ _ | .dmuluL _ _ |
    .mulL _ _ | .mulsW _ _ | .muluW _ _ | .macL _ _ | .macW _ _ | .neg _ _ | .sub _ _ | .extsB _ _ | .extsW _ _ |
    .extuB _ _ | .extuW _ _ | .and _ _ | .andImm _ | .andB _ | .not _ _ | .or _ _ | .orImm _ | .orB _ | .xor _ _ |
    .xorImm _ | .xorB _ | .shad _ _ | .shll2 _ | .shll8 _ | .shll16 _ | .shlr2 _ | .shlr8 _ | .shlr16 _ |
    .shld _ _ | .bf _ | .bfS _ | .bt _ | .btS _ | .bra _ | .braf _ | .bsr _ | .bsrf _ | .jmp _ | .jsr _ | .rts |
    .clrmac | .nop | .ldcGbr _ | .ldcVbr _ | .ldcSsr _ | .ldcSpc _ | .ldcLGbr _ | .ldcLVbr _ | .ldcLSsr _ |
    .ldcLSpc _ | .ldcBank _ _ | .ldcLBank _ _ | .stcSr _ | .stcGbr _ | .stcVbr _ | .stcSsr _ | .stcSpc _ |
    .stcLSr _ | .stcLGbr _ | .stcLVbr _ | .stcLSsr _ | .stcLSpc _ | .stcBank _ _ | .stcLBank _ _ | .ldsMach _ |
    .ldsMacl _ | .ldsPr _ | .ldsLMach _ | .ldsLMacl _ | .ldsLPr _ | .stsMach _ | .stsMacl _ | .stsPr _ |
    .stsLMach _ | .stsLMacl _ | .stsLPr _ | .trapa _ | .sleep | .pref _ | .ldtlb => []

/-- The delayed branches (44_branch.md R261). -/
def Instr.delayedBranch : Instr → Bool
  | .bfS _ | .btS _ | .bra _ | .braf _ | .bsr _ | .bsrf _ | .jmp _ | .jsr _ | .rts | .rte => true
  | .movImm _ _ | .movWPc _ _ | .movLPc _ _ | .mov _ _ | .movBStore _ _ | .movWStore _ _ | .movLStore _ _ |
    .movBLoad _ _ | .movWLoad _ _ | .movLLoad _ _ | .movBStoreDec _ _ | .movWStoreDec _ _ | .movLStoreDec _ _ |
    .movBLoadInc _ _ | .movWLoadInc _ _ | .movLLoadInc _ _ | .movBStoreDisp _ _ | .movWStoreDisp _ _ |
    .movLStoreDisp _ _ _ | .movBLoadDisp _ _ | .movWLoadDisp _ _ | .movLLoadDisp _ _ _ | .movBStoreIdx _ _ |
    .movWStoreIdx _ _ | .movLStoreIdx _ _ | .movBLoadIdx _ _ | .movWLoadIdx _ _ | .movLLoadIdx _ _ |
    .movBStoreGbr _ | .movWStoreGbr _ | .movLStoreGbr _ | .movBLoadGbr _ | .movWLoadGbr _ | .movLLoadGbr _ |
    .mova _ | .movt _ | .swapB _ _ | .swapW _ _ | .xtrct _ _ | .add _ _ | .addImm _ _ | .addc _ _ | .addv _ _ |
    .cmpEqImm _ | .cmpEq _ _ | .cmpHs _ _ | .cmpGe _ _ | .cmpHi _ _ | .cmpGt _ _ | .cmpPz _ | .cmpPl _ |
    .cmpStr _ _ | .div0s _ _ | .div0u | .div1 _ _ | .dmulsL _ _ | .dmuluL _ _ | .mulL _ _ | .mulsW _ _ |
    .muluW _ _ | .macL _ _ | .macW _ _ | .neg _ _ | .negc _ _ | .sub _ _ | .subc _ _ | .subv _ _ | .dt _ |
    .extsB _ _ | .extsW _ _ | .extuB _ _ | .extuW _ _ | .and _ _ | .andImm _ | .andB _ | .not _ _ | .or _ _ |
    .orImm _ | .orB _ | .tasB _ | .tst _ _ | .tstImm _ | .tstB _ | .xor _ _ | .xorImm _ | .xorB _ | .rotl _ |
    .rotr _ | .rotcl _ | .rotcr _ | .shal _ | .shar _ | .shad _ _ | .shll _ | .shlr _ | .shll2 _ | .shll8 _ |
    .shll16 _ | .shlr2 _ | .shlr8 _ | .shlr16 _ | .shld _ _ | .bf _ | .bt _ | .clrmac | .clrs | .clrt | .sets |
    .sett | .nop | .ldcSr _ | .ldcGbr _ | .ldcVbr _ | .ldcSsr _ | .ldcSpc _ | .ldcLSr _ | .ldcLGbr _ | .ldcLVbr _ |
    .ldcLSsr _ | .ldcLSpc _ | .ldcBank _ _ | .ldcLBank _ _ | .stcSr _ | .stcGbr _ | .stcVbr _ | .stcSsr _ |
    .stcSpc _ | .stcLSr _ | .stcLGbr _ | .stcLVbr _ | .stcLSsr _ | .stcLSpc _ | .stcBank _ _ | .stcLBank _ _ |
    .ldsMach _ | .ldsMacl _ | .ldsPr _ | .ldsLMach _ | .ldsLMacl _ | .ldsLPr _ | .stsMach _ | .stsMacl _ |
    .stsPr _ | .stsLMach _ | .stsLMacl _ | .stsLPr _ | .trapa _ | .sleep | .pref _ | .ldtlb => false

end Sys2Proof

namespace Sys2Proof.Machine

/-! ## Reset operation -/

/-- t is s after reset operation with the EXPEVT code (70_reset_and_hazards.md R410); the registers that reset leaves
unspecified are not mentioned. -/
structure ResetDone (s t : State) (code : Word) : Prop where
  pc : t.pc = 0xA0000000
  privileged : t.privileged = true
  rb : t.rb = true
  blocked : t.blocked = true
  maskLevel : t.maskLevel = 15
  reserved : t.sr &&& 0x8FFFFC0C = 0
  vbr : t.vbr = 0
  expevt : t.expevt = code
  slot : t.slot = none
  asleep : t.asleep = false
  spc : t.spc = s.spc
  ssr : t.ssr = s.ssr

/-! ## The form of a state -/

/-- The form that every step keeps: memory, the record of stores and the list of shared locations in canonical form, the reserved bits of SR and of the
event registers 0, and no sleep inside a delay slot. -/
structure State.Inv (s : State) : Prop where
  mem : s.mem.wf = true
  storedTo : addressesWf s.storedTo = true
  shared : addressesWf s.shared = true
  sr : s.sr &&& 0x8FFFFC0C = 0
  tra : s.tra &&& 0xFFFFFC03 = 0
  expevt : s.expevt &&& 0xFFFFF000 = 0
  intevt : s.intevt &&& 0xFFFFF000 = 0
  asleep : s.asleep = true → s.slot = none

end Sys2Proof.Machine
end

