-- ==== Sys2Proof/Certificates/Slice0/Obligations.lean ====
section
/-! DEFINITION. The statements for the provers, in the terms of Safety.lean. -/

open Sys2Proof Sys2Proof.Machine

/-- Decode and encode agree, from the instruction (30_encoding.md R91, R92, R95). -/
def Obligations.EncodeThenDecode : Prop :=
  ∀ i : Instr, decode (encode i) = .ok i

/-- Decode and encode agree, from the word (30_encoding.md R90 to R92, R95). -/
def Obligations.DecodeThenEncode : Prop :=
  ∀ (w : Half) (i : Instr), decode w = .ok i → encode i = w

/-- What the decoder rejects (30_encoding.md R95 to R97). -/
def Obligations.ReservedWords : Prop :=
  (∀ w : Half, (∀ r ∈ opcodeRows, w &&& r.mask ≠ r.bits) ↔ decode w = .error (.reservedWord w)) ∧
  (∀ x : BitVec 12, ∀ r ∈ opcodeRows, (0b1111#4 ++ x) &&& r.mask ≠ r.bits) ∧
  (∀ n : BitVec 4, ∀ low ∈ [0b11000011#8, 0b10010011#8, 0b10100011#8, 0b10110011#8],
    decode (0b0000#4 ++ n ++ low) = .error (.reservedWord (0b0000#4 ++ n ++ low)))

/-- The rows of the opcode table exclude each other (30_encoding.md R95, 95_test_vectors.md section 5). -/
def Obligations.OneRowPerWord : Prop :=
  ∀ (w : Half), ∀ r ∈ opcodeRows, ∀ q ∈ opcodeRows, w &&& r.mask = r.bits → w &&& q.mask = q.bits → r = q

/-- Words printed in the examples of the instruction rules. -/
def Obligations.SampleWords : Prop :=
  decode 0xE022 = .ok (.movImm 34 0) ∧ decode 0x9103 = .ok (.movWPc 3 1) ∧ decode 0x1F12 = .ok (.movLStoreDisp 1 2 15) ∧
  decode 0x2F86 = .ok (.movLStoreDec 8 15) ∧ decode 0x310C = .ok (.add 0 1) ∧ decode 0x3104 = .ok (.div1 0 1) ∧
  decode 0x454F = .ok (.macW 4 5) ∧ decode 0x054F = .ok (.macL 4 5) ∧ decode 0xCF80 = .ok (.orB 0x80) ∧
  decode 0x411B = .ok (.tasB 1) ∧ decode 0x4028 = .ok (.shll16 0) ∧ decode 0x421C = .ok (.shad 1 2) ∧
  decode 0xA010 = .ok (.bra 0x010) ∧ decode 0x400B = .ok (.jsr 0) ∧ decode 0x41AE = .ok (.ldcBank 1 2) ∧
  decode 0x4F22 = .ok (.stsLPr 15) ∧ decode 0xC320 = .ok (.trapa 0x20) ∧ decode 0x002B = .ok .rte

/-- A step fetches at pc and executes (20_memory.md R62, 44_branch.md R260, 60_exceptions.md R380). -/
def Obligations.StepRunsDecoded : Prop :=
  ∀ (s : State) (w : Half) (i : Instr), s.Fetches w → decode w = .ok i → step s = exec i s

/-- Reserved encodings (30_encoding.md R96); of the two ways R96 allows, the machine takes the exception (log 24). -/
def Obligations.UndefinedWordRaises : Prop :=
  ∀ (s : State) (w : Half), s.Fetches w → (∀ r ∈ opcodeRows, w &&& r.mask ≠ r.bits) →
    step s = .next (s.takeExc (if s.slot = none then .reservedInstruction else .illegalSlot)) ∧
    (s.takeExc (if s.slot = none then .reservedInstruction else .illegalSlot)).expevt =
      (if s.slot = none then 0x180 else 0x1A0)

/-- What stops a fetch (20_memory.md R62, R63, R71, R72, 60_exceptions.md R361; the stops are logs 3, 12 and 13). -/
def Obligations.FetchStops : Prop :=
  ∀ s : State, s.Undisturbed →
    (s.BadAddress 2 s.pc → step s = .next (s.takeExc (.addressError .fetch s.pc))) ∧
    (¬ s.BadAddress 2 s.pc → 0xE0000000 ≤ s.pc.toNat → step s = .refused (.p4Access s.pc)) ∧
    (s.MayAccess 2 s.pc → (∃ a ∈ span (place s.pc) 2, a ∈ s.storedTo ∨ a ∈ s.shared) →
      ∃ a ∈ span (place s.pc) 2, (a ∈ s.storedTo ∨ a ∈ s.shared) ∧ step s = .refused (.storedText a)) ∧
    (s.MayAccess 2 s.pc → (∀ a ∈ span (place s.pc) 2, a ∉ s.storedTo ∧ a ∉ s.shared) →
      (∃ a ∈ span (place s.pc) 2, s.mem.read a = none) →
      ∃ a ∈ span (place s.pc) 2, s.mem.read a = none ∧ step s = .fault (.unwrittenMemory a))

/-- All the stops of the machine (10_state.md R45, 20_memory.md R66, R71 to R73, 41_arithmetic.md R186, R195, R196,
70_reset_and_hazards.md R427; logs 3 and 8 to 13 say that they are stops). -/
def Obligations.StepStopsOnlySo : Prop :=
  ∀ s : State,
    (∀ f, step s = .fault f → ∃ a, f = .unwrittenMemory a ∧ s.mem.read a = none ∧ a ∉ s.shared) ∧
    (∀ r, step s = .refused r →
      (∃ a, r = .p4Access a ∧ 0xE0000000 ≤ a.toNat ∧ s.privileged = true) ∨
      (∃ a, r = .storedText a ∧ (a ∈ s.storedTo ∨ a ∈ s.shared)) ∨
      (r = .slotPcRelative s.pc ∧ s.slot ≠ none) ∨
      (r = .tlbWrite ∧ s.privileged = true) ∨
      (∃ n w, r = .sameRegister n ∧ s.Fetches w ∧ decode w ∈ [.ok (.div1 n n), .ok (.macL n n), .ok (.macW n n)]))

/-- Sleep (45_system_control.md R312, 60_exceptions.md R380, R395). That a step which nothing wakes answers the same state is
the model's choice, log 19: decision D18 also ends the run there. -/
def Obligations.SleepHolds : Prop :=
  ∀ s : State, s.asleep = true → s.resetPin = none →
    (s.slot ≠ none ∨ s.blocked = true ∨ (s.nmi = false ∧ s.level.val ≤ s.maskLevel)) → step s = .next s

/-- The values of 10_state.md R44 that the spec states. -/
def Obligations.ResetState : Prop :=
  State.reset.pc = 0xA0000000 ∧ State.reset.privileged = true ∧ State.reset.rb = true ∧ State.reset.blocked = true ∧
  State.reset.maskLevel = 15 ∧ State.reset.sr &&& 0x8FFFFC0C = 0 ∧ State.reset.vbr = 0 ∧ State.reset.expevt = 0x000 ∧
  State.reset.slot = none ∧ State.reset.asleep = false

/-- Reset (70_reset_and_hazards.md R410). -/
def Obligations.ResetRequest : Prop :=
  ∀ (s : State) (k : ResetKind), s.resetPin = some k →
    ∃ t, step s = .next t ∧ ResetDone s t (match k with | .powerOn => 0x000 | .manual => 0x020)

/-- Exceptions while BL = 1 (60_exceptions.md R372 (c), decision D15; log 16). -/
def Obligations.BlockedExceptionResets : Prop :=
  ∀ s : State, s.blocked = true →
    (∀ a, ResetDone s (s.takeExc (.addressError .fetch a)) 0x0E0) ∧
    (∀ a, ResetDone s (s.takeExc (.addressError .read a)) 0x0E0) ∧
    (∀ a, ResetDone s (s.takeExc (.addressError .write a)) 0x100) ∧
    (∀ imm, ResetDone s (s.takeExc (.trap imm)) 0x160) ∧
    ResetDone s (s.takeExc .reservedInstruction) 0x180 ∧
    ResetDone s (s.takeExc .illegalSlot) 0x1A0

/-- Exception entry (60_exceptions.md R370). -/
def Obligations.ExceptionEntry : Prop :=
  ∀ s : State,
    (s.blocked = false → ∀ e : Exc,
      s.takeExc e =
        { s with
          spc := s.savedPc e
          ssr := s.sr &&& 0x700003F3
          sr := (s.sr &&& 0x700003F3) ||| 0x70000000
          expevt := e.code
          tra := (match e with | .trap imm => zext8 imm <<< 2 | _ => s.tra)
          slot := none
          asleep := false
          pc := s.vbr + 0x100 }) ∧
    (∀ code : Word,
      s.enterInterrupt code =
        { s with
          spc := s.pc
          ssr := s.sr &&& 0x700003F3
          sr := (s.sr &&& 0x700003F3) ||| 0x70000000
          intevt := code
          slot := none
          asleep := false
          pc := s.vbr + 0x600 })

/-- The tables of 60_exceptions.md R367 and R373. -/
def Obligations.ExceptionCodesAndSavedPc : Prop :=
  (∀ a, (Exc.addressError .fetch a).code = 0x0E0 ∧ (Exc.addressError .read a).code = 0x0E0 ∧
    (Exc.addressError .write a).code = 0x100) ∧
  (∀ imm, (Exc.trap imm).code = 0x160) ∧ Exc.reservedInstruction.code = 0x180 ∧ Exc.illegalSlot.code = 0x1A0 ∧
  (∀ (s : State) (e : Exc), (∀ imm, e ≠ .trap imm) → s.slot = none → s.savedPc e = s.pc) ∧
  (∀ (s : State) (e : Exc), (∀ imm, e ≠ .trap imm) → s.slot ≠ none → s.savedPc e = s.pc - 2) ∧
  (∀ (s : State) (imm : Byte), s.savedPc (.trap imm) = s.pc + 2)

/-- Interrupt acceptance (60_exceptions.md R380 to R382); that NMI is latched and cleared is log 18. -/
def Obligations.InterruptAccepted : Prop :=
  ∀ s : State, s.resetPin = none → s.slot = none → s.blocked = false →
    (s.nmi = true → step s = .next { s.enterInterrupt 0x1C0 with nmi := false }) ∧
    (s.nmi = false → s.maskLevel < s.level.val →
      step s = .next (s.enterInterrupt (BitVec.ofNat 32 (0x200 + 0x20 * (15 - s.level.val))))) ∧
    (∀ code, (s.enterInterrupt code).pc = s.vbr + 0x600 ∧ (s.enterInterrupt code).spc = s.pc ∧
      (s.enterInterrupt code).intevt = code ∧ (s.enterInterrupt code).asleep = false ∧
      (s.enterInterrupt code).blocked = true ∧ (s.enterInterrupt code).maskLevel = s.maskLevel)

/-- Bank selection (10_state.md R21 to R24, R39). -/
def Obligations.BankSelection : Prop :=
  ∀ s : State,
    (∀ (r : Reg) (h : r.val < 8), s.reg r =
      if s.privileged = true ∧ s.rb = true then s.bank1[r.val] else s.bank0[r.val]) ∧
    (∀ (r : Reg) (_ : 8 ≤ r.val), s.reg r = s.high[r.val - 8]) ∧
    (∀ b : BankReg, s.backReg b = if s.privileged = true ∧ s.rb = true then s.bank0[b.val] else s.bank1[b.val]) ∧
    (∀ (r q : Reg) (b : BankReg) (v : Word), (s.setReg r v).reg q = (if q = r then v else s.reg q) ∧
      (s.setReg r v).backReg b = s.backReg b) ∧
    (∀ (r : Reg) (b c : BankReg) (v : Word), (s.setBackReg b v).backReg c = (if c = b then v else s.backReg c) ∧
      (s.setBackReg b v).reg r = s.reg r) ∧
    (∀ v : Word, (s.setSr v).bank0 = s.bank0 ∧ (s.setSr v).bank1 = s.bank1 ∧ (s.setSr v).high = s.high)

/-- Byte order (20_memory.md R61), and what a load sees (20_memory.md R67, R69): the latest store, or at a location declared
shared the oracle's answer, whatever it is (log 22). -/
def Obligations.ByteOrder : Prop :=
  ∀ (s : State) (a : Word),
    (s.MayAccess 2 a → ∀ b0 b1 : Byte, s.readByte (place a) = some b0 → s.readByte (place a + 1) = some b1 →
      s.loadWord .read a = .ok (if s.endian = .big then b0 ++ b1 else b1 ++ b0)) ∧
    (s.MayAccess 4 a → ∀ b0 b1 b2 b3 : Byte, s.readByte (place a) = some b0 → s.readByte (place a + 1) = some b1 →
      s.readByte (place a + 2) = some b2 → s.readByte (place a + 3) = some b3 →
      s.loadLong .read a = .ok (if s.endian = .big then b0 ++ b1 ++ b2 ++ b3 else b3 ++ b2 ++ b1 ++ b0)) ∧
    (s.MayAccess 2 a → ∀ v : Half, ∃ t, s.storeWord a v = .ok t ∧ t.Holds 2 (place a) v.toNat ∧
      ((∀ x ∈ span (place a) 2, x ∉ s.shared) → t.loadWord .read a = .ok v)) ∧
    (s.MayAccess 4 a → ∀ v : Word, ∃ t, s.storeLong a v = .ok t ∧ t.Holds 4 (place a) v.toNat ∧
      ((∀ x ∈ span (place a) 4, x ∉ s.shared) → t.loadLong .read a = .ok v ∧
        ∀ k < 4, t.loadByte .read (a + BitVec.ofNat 32 k) =
          .ok (v.extractLsb' (8 * (if s.endian = .big then 3 - k else k)) 8))) ∧
    (s.MayAccess 1 a →
      (place a ∈ s.shared → s.loadByte .read a = .ok (Config.oracle s.oracleCount (place a))) ∧
      (place a ∉ s.shared → ∀ v : Byte, ∃ t, s.storeByte a v = .ok t ∧ t.loadByte .read a = .ok v))

/-- The address map with translation off (20_memory.md R65, decision D5; log 15). -/
def Obligations.SegmentsAlias : Prop :=
  ∀ (s : State) (a b : Word), s.privileged = true → a.toNat < 0xE0000000 → b.toNat < 0xE0000000 →
    a.toNat % 2 ^ 29 = b.toNat % 2 ^ 29 →
    s.loadByte .read a = s.loadByte .read b ∧
    (a.toNat % 2 = 0 → s.loadWord .read a = s.loadWord .read b) ∧
    (a.toNat % 4 = 0 → s.loadLong .read a = s.loadLong .read b) ∧
    (∀ v : Byte, ∃ t, s.storeByte a v = .ok t ∧ t.mem.read (place b) = some v ∧
      (place b ∉ s.shared → t.loadByte .read b = .ok v))

/-- The event registers (60_exceptions.md R374, decision D20; log 14). -/
def Obligations.EventRegisters : Prop :=
  ∀ (m n : Reg) (s : State) (r : EventReg),
    (s.ReachesEvent (s.reg m) r →
      Finishes (.movLLoad m n) s [n] [] [] [] fun t => t.reg n = s.eventReg r) ∧
    (s.ReachesEvent (s.reg n) r →
      Finishes (.movLStore m n) s [] [] [r.part] [] fun t => t.eventReg r = s.reg m &&& r.layout)

/-- Stores to the event registers (60_exceptions.md R374; log 14). -/
def Obligations.EventRegisterStores : Prop :=
  ∀ (m n : Reg) (b : BankReg) (d : BitVec 4) (e : BitVec 8) (s : State),
    StoresEvent (.movLStoreDec m n) s (s.reg n - 4) (s.reg m) [n] (fun t => t.reg n = s.reg n - 4) ∧
    StoresEvent (.movLStoreDisp m d n) s (s.reg n + d.setWidth 32 * 4) (s.reg m) [] (fun _ => True) ∧
    StoresEvent (.movLStoreIdx m n) s (s.reg n + s.reg 0) (s.reg m) [] (fun _ => True) ∧
    StoresEvent (.movLStoreGbr e) s (s.gbr + e.setWidth 32 * 4) (s.reg 0) [] (fun _ => True) ∧
    StoresEvent (.stcLSr n) s (s.reg n - 4) (s.sr &&& 0x700003F3) [n] (fun t => t.reg n = s.reg n - 4) ∧
    StoresEvent (.stcLGbr n) s (s.reg n - 4) (s.gbr) [n] (fun t => t.reg n = s.reg n - 4) ∧
    StoresEvent (.stcLVbr n) s (s.reg n - 4) (s.vbr) [n] (fun t => t.reg n = s.reg n - 4) ∧
    StoresEvent (.stcLSsr n) s (s.reg n - 4) (s.ssr) [n] (fun t => t.reg n = s.reg n - 4) ∧
    StoresEvent (.stcLSpc n) s (s.reg n - 4) (s.spc) [n] (fun t => t.reg n = s.reg n - 4) ∧
    StoresEvent (.stcLBank b n) s (s.reg n - 4) (s.part (.back b)) [n] (fun t => t.reg n = s.reg n - 4) ∧
    StoresEvent (.stsLMach n) s (s.reg n - 4) (s.mach) [n] (fun t => t.reg n = s.reg n - 4) ∧
    StoresEvent (.stsLMacl n) s (s.reg n - 4) (s.macl) [n] (fun t => t.reg n = s.reg n - 4) ∧
    StoresEvent (.stsLPr n) s (s.reg n - 4) (s.pr) [n] (fun t => t.reg n = s.reg n - 4)

/-- Address errors of every memory instruction (20_memory.md R63, R65, 60_exceptions.md R361). -/
def Obligations.AddressErrors : Prop :=
  ∀ (i : Instr) (s : State) (k : AccessKind) (n : Nat) (ea : Word), s.firstAccess i = some (k, n, ea) →
    WellFormed s.inSlot s.privileged i = true → s.BadAddress n ea → Raises i s (.addressError k ea)

/-- The stops of an access to memory (10_state.md R45, 20_memory.md R72; logs 3 and 13 say that they are stops). -/
def Obligations.MemoryStops : Prop :=
  ∀ (i : Instr) (s : State) (k : AccessKind) (n : Nat) (ea : Word), s.firstAccess i = some (k, n, ea) →
    WellFormed s.inSlot s.privileged i = true → ¬ s.BadAddress n ea →
    (0xE0000000 ≤ ea.toNat → (n = 4 → ∀ r, ¬ s.ReachesEvent ea r) → exec i s = .refused (.p4Access ea)) ∧
    (ea.toNat < 0xE0000000 → k = .read → (∃ a ∈ span (place ea) n, s.mem.read a = none ∧ a ∉ s.shared) →
      ∃ a ∈ span (place ea) n, (s.mem.read a = none ∧ a ∉ s.shared) ∧ exec i s = .fault (.unwrittenMemory a))

/-- The form of a state that every step keeps (10_state.md R34, 60_exceptions.md R374, 20_memory.md R60, R65). That the
reserved bits of TRA, EXPEVT and INTEVT stay 0 after a store is log 14, the record of stores is a field of log 12 and the
list of shared locations one of log 22: those clauses are the model's choices. -/
def Obligations.StepKeepsForm : Prop :=
  ∀ s t : State, s.Inv → step s = .next t → t.Inv

/-- The invariant holds after reset. -/
def Obligations.ResetHasForm : Prop :=
  State.reset.Inv

/-- Who writes SR (10_state.md R27 to R34). -/
def Obligations.SrWriters : Prop :=
  ∀ (i : Instr) (s t : State), s.blocked = false → exec i s = .next t → ∀ k ∈ srFields, k ∉ i.srBits →
    t.sr.getLsbD k = s.sr.getLsbD k ∨
      (28 ≤ k ∧ t.pc = s.vbr + 0x100 ∧ t.privileged = true ∧ t.rb = true ∧ t.blocked = true)

/-- What user mode may do (10_state.md R46, 60_exceptions.md R390). -/
def Obligations.UserModeConfined : Prop :=
  ∀ (i : Instr) (s t : State), s.privileged = false → s.blocked = false → exec i s = .next t →
    t.vbr = s.vbr ∧ t.intevt = s.intevt ∧ t.bank1 = s.bank1 ∧ t.maskLevel = s.maskLevel ∧
    ((t.privileged = false ∧ t.rb = s.rb ∧ t.blocked = false ∧ t.ssr = s.ssr ∧ t.spc = s.spc ∧ t.tra = s.tra ∧
        t.expevt = s.expevt) ∨
      (t.privileged = true ∧ t.rb = true ∧ t.blocked = true ∧ t.pc = s.vbr + 0x100 ∧ t.slot = none))

/-- Delay slots (44_branch.md R260, R261). -/
def Obligations.DelaySlots : Prop :=
  ∀ (i : Instr) (s t : State), s.blocked = false → exec i s = .next t →
    (s.slot = none → t.slot ≠ none → i.delayedBranch = true ∧ t.pc = s.pc + 2) ∧
    (∀ x, s.slot = some x → t.slot = none ∧ (t.pc = x ∨ (t.pc = s.vbr + 0x100 ∧ t.spc = s.pc - 2)))

/-- Where instructions may not be executed (44_branch.md R262, 45_system_control.md R280). -/
def Obligations.IllegalInstructionsRaise : Prop :=
  ∀ (i : Instr) (s : State),
    (s.slot ≠ none → i.slotIllegal = true → Raises i s .illegalSlot) ∧
    (s.privileged = false → i.privileged = true →
      Raises i s (if s.slot = none then .reservedInstruction else .illegalSlot))

/-- Moves between registers (40_data_transfer.md R121, R124, R156 to R159). -/
def Obligations.MovesBetweenRegisters : Prop :=
  ∀ (m n : Reg) (i : BitVec 8) (s : State),
    SetsReg (0b1110#4 ++ regField n ++ i) (.movImm i n) s n (i.signExtend 32) ∧
    SetsReg (0b0110#4 ++ regField n ++ regField m ++ 0b0011#4) (.mov m n) s n (s.reg m) ∧
    SetsReg (0b0000#4 ++ regField n ++ 0b00101001#8) (.movt n) s n (if s.flagT then 1 else 0) ∧
    SetsReg (0b0110#4 ++ regField n ++ regField m ++ 0b1000#4) (.swapB m n) s n
      ((s.reg m).extractLsb' 16 16 ++ (s.reg m).extractLsb' 0 8 ++ (s.reg m).extractLsb' 8 8) ∧
    SetsReg (0b0110#4 ++ regField n ++ regField m ++ 0b1001#4) (.swapW m n) s n ((s.reg m).extractLsb' 0 16 ++ (s.reg m).extractLsb' 16 16) ∧
    SetsReg (0b0010#4 ++ regField n ++ regField m ++ 0b1101#4) (.xtrct m n) s n ((s.reg m).extractLsb' 0 16 ++ (s.reg n).extractLsb' 16 16)

/-- PC-relative operands (40_data_transfer.md R122, R123, R155); in a slot the model refuses them and gives them no value
(70_reset_and_hazards.md R427, decision D10; log 10). -/
def Obligations.PcRelativeOperands : Prop :=
  ∀ (n : Reg) (d : BitVec 8) (s : State),
    (s.slot = none →
      LoadsReg (0b1001#4 ++ regField n ++ d) (.movWPc d n) s 2 (s.pc + 4 + d.setWidth 32 * 2) n (fun v => (BitVec.ofNat 16 v).signExtend 32) ∧
      LoadsReg (0b1101#4 ++ regField n ++ d) (.movLPc d n) s 4 (((s.pc + 4) &&& 0xFFFFFFFC) + d.setWidth 32 * 4) n (fun v => BitVec.ofNat 32 v) ∧
      SetsReg (0b11000111#8 ++ d) (.mova d) s 0 (((s.pc + 4) &&& 0xFFFFFFFC) + d.setWidth 32 * 4)) ∧
    (s.slot ≠ none →
      exec (.movWPc d n) s = .refused (.slotPcRelative s.pc) ∧
      exec (.movLPc d n) s = .refused (.slotPcRelative s.pc) ∧
      exec (.mova d) s = .refused (.slotPcRelative s.pc))

/-- Loads (40_data_transfer.md R128 to R130, R140 to R142). -/
def Obligations.LoadsIndirect : Prop :=
  ∀ (m n : Reg) (d : BitVec 4) (s : State),
    LoadsReg (0b0110#4 ++ regField n ++ regField m ++ 0b0000#4) (.movBLoad m n) s 1 (s.reg m) n (fun v => (BitVec.ofNat 8 v).signExtend 32) ∧
    LoadsReg (0b0110#4 ++ regField n ++ regField m ++ 0b0001#4) (.movWLoad m n) s 2 (s.reg m) n (fun v => (BitVec.ofNat 16 v).signExtend 32) ∧
    LoadsReg (0b0110#4 ++ regField n ++ regField m ++ 0b0010#4) (.movLLoad m n) s 4 (s.reg m) n (fun v => BitVec.ofNat 32 v) ∧
    LoadsReg (0b10000100#8 ++ regField m ++ d) (.movBLoadDisp d m) s 1 (s.reg m + d.setWidth 32) 0 (fun v => (BitVec.ofNat 8 v).signExtend 32) ∧
    LoadsReg (0b10000101#8 ++ regField m ++ d) (.movWLoadDisp d m) s 2 (s.reg m + d.setWidth 32 * 2) 0 (fun v => (BitVec.ofNat 16 v).signExtend 32) ∧
    LoadsReg (0b0101#4 ++ regField n ++ regField m ++ d) (.movLLoadDisp d m n) s 4 (s.reg m + d.setWidth 32 * 4) n (fun v => BitVec.ofNat 32 v)

/-- Loads (40_data_transfer.md R146 to R148, R152 to R154). -/
def Obligations.LoadsIndexed : Prop :=
  ∀ (m n : Reg) (d : BitVec 8) (s : State),
    LoadsReg (0b0000#4 ++ regField n ++ regField m ++ 0b1100#4) (.movBLoadIdx m n) s 1 (s.reg m + s.reg 0) n (fun v => (BitVec.ofNat 8 v).signExtend 32) ∧
    LoadsReg (0b0000#4 ++ regField n ++ regField m ++ 0b1101#4) (.movWLoadIdx m n) s 2 (s.reg m + s.reg 0) n (fun v => (BitVec.ofNat 16 v).signExtend 32) ∧
    LoadsReg (0b0000#4 ++ regField n ++ regField m ++ 0b1110#4) (.movLLoadIdx m n) s 4 (s.reg m + s.reg 0) n (fun v => BitVec.ofNat 32 v) ∧
    LoadsReg (0b11000100#8 ++ d) (.movBLoadGbr d) s 1 (s.gbr + d.setWidth 32) 0 (fun v => (BitVec.ofNat 8 v).signExtend 32) ∧
    LoadsReg (0b11000101#8 ++ d) (.movWLoadGbr d) s 2 (s.gbr + d.setWidth 32 * 2) 0 (fun v => (BitVec.ofNat 16 v).signExtend 32) ∧
    LoadsReg (0b11000110#8 ++ d) (.movLLoadGbr d) s 4 (s.gbr + d.setWidth 32 * 4) 0 (fun v => BitVec.ofNat 32 v)

/-- Loads with post-increment (40_data_transfer.md R134 to R136). -/
def Obligations.LoadsPostIncrement : Prop :=
  ∀ (m n : Reg) (s : State),
    (decode (0b0110#4 ++ regField n ++ regField m ++ 0b0100#4) = .ok (.movBLoadInc m n) ∧
      (∀ v, s.Readable 1 (s.reg m) v → Finishes (.movBLoadInc m n) s [m, n] [] [] [] fun t =>
        t.reg n = (BitVec.ofNat 8 v).signExtend 32 ∧ (m ≠ n → t.reg m = s.reg m + 1)) ∧
      (s.BadAddress 1 (s.reg m) → Raises (.movBLoadInc m n) s (.addressError .read (s.reg m)))) ∧
    (decode (0b0110#4 ++ regField n ++ regField m ++ 0b0101#4) = .ok (.movWLoadInc m n) ∧
      (∀ v, s.Readable 2 (s.reg m) v → Finishes (.movWLoadInc m n) s [m, n] [] [] [] fun t =>
        t.reg n = (BitVec.ofNat 16 v).signExtend 32 ∧ (m ≠ n → t.reg m = s.reg m + 2)) ∧
      (s.BadAddress 2 (s.reg m) → Raises (.movWLoadInc m n) s (.addressError .read (s.reg m)))) ∧
    (decode (0b0110#4 ++ regField n ++ regField m ++ 0b0110#4) = .ok (.movLLoadInc m n) ∧
      (∀ v, s.Readable 4 (s.reg m) v → Finishes (.movLLoadInc m n) s [m, n] [] [] [] fun t =>
        t.reg n = BitVec.ofNat 32 v ∧ (m ≠ n → t.reg m = s.reg m + 4)) ∧
      (s.BadAddress 4 (s.reg m) → Raises (.movLLoadInc m n) s (.addressError .read (s.reg m))))

/-- Stores (40_data_transfer.md R125 to R127, R137 to R139). -/
def Obligations.StoresIndirect : Prop :=
  ∀ (m n : Reg) (d : BitVec 4) (s : State),
    StoresReg (0b0010#4 ++ regField n ++ regField m ++ 0b0000#4) (.movBStore m n) s 1 (s.reg n) (s.reg m) [] (fun _ => True) ∧
    StoresReg (0b0010#4 ++ regField n ++ regField m ++ 0b0001#4) (.movWStore m n) s 2 (s.reg n) (s.reg m) [] (fun _ => True) ∧
    StoresReg (0b0010#4 ++ regField n ++ regField m ++ 0b0010#4) (.movLStore m n) s 4 (s.reg n) (s.reg m) [] (fun _ => True) ∧
    StoresReg (0b10000000#8 ++ regField n ++ d) (.movBStoreDisp d n) s 1 (s.reg n + d.setWidth 32) (s.reg 0) [] (fun _ => True) ∧
    StoresReg (0b10000001#8 ++ regField n ++ d) (.movWStoreDisp d n) s 2 (s.reg n + d.setWidth 32 * 2) (s.reg 0) [] (fun _ => True) ∧
    StoresReg (0b0001#4 ++ regField n ++ regField m ++ d) (.movLStoreDisp m d n) s 4 (s.reg n + d.setWidth 32 * 4) (s.reg m) [] (fun _ => True)

/-- Stores (40_data_transfer.md R143 to R145, R149 to R151). -/
def Obligations.StoresIndexed : Prop :=
  ∀ (m n : Reg) (d : BitVec 8) (s : State),
    StoresReg (0b0000#4 ++ regField n ++ regField m ++ 0b0100#4) (.movBStoreIdx m n) s 1 (s.reg n + s.reg 0) (s.reg m) [] (fun _ => True) ∧
    StoresReg (0b0000#4 ++ regField n ++ regField m ++ 0b0101#4) (.movWStoreIdx m n) s 2 (s.reg n + s.reg 0) (s.reg m) [] (fun _ => True) ∧
    StoresReg (0b0000#4 ++ regField n ++ regField m ++ 0b0110#4) (.movLStoreIdx m n) s 4 (s.reg n + s.reg 0) (s.reg m) [] (fun _ => True) ∧
    StoresReg (0b11000000#8 ++ d) (.movBStoreGbr d) s 1 (s.gbr + d.setWidth 32) (s.reg 0) [] (fun _ => True) ∧
    StoresReg (0b11000001#8 ++ d) (.movWStoreGbr d) s 2 (s.gbr + d.setWidth 32 * 2) (s.reg 0) [] (fun _ => True) ∧
    StoresReg (0b11000010#8 ++ d) (.movLStoreGbr d) s 4 (s.gbr + d.setWidth 32 * 4) (s.reg 0) [] (fun _ => True)

/-- Stores with pre-decrement (40_data_transfer.md R131 to R133). -/
def Obligations.StoresPreDecrement : Prop :=
  ∀ (m n : Reg) (s : State),
    StoresReg (0b0010#4 ++ regField n ++ regField m ++ 0b0100#4) (.movBStoreDec m n) s 1 (s.reg n - 1) (s.reg m) [n] (fun t => t.reg n = s.reg n - 1) ∧
    StoresReg (0b0010#4 ++ regField n ++ regField m ++ 0b0101#4) (.movWStoreDec m n) s 2 (s.reg n - 2) (s.reg m) [n] (fun t => t.reg n = s.reg n - 2) ∧
    StoresReg (0b0010#4 ++ regField n ++ regField m ++ 0b0110#4) (.movLStoreDec m n) s 4 (s.reg n - 4) (s.reg m) [n] (fun t => t.reg n = s.reg n - 4)

/-- Arithmetic that writes no flag (41_arithmetic.md R171, R172, R191 to R194, R200, R202). -/
def Obligations.PlainArithmetic : Prop :=
  ∀ (m n : Reg) (i : BitVec 8) (s : State),
    SetsReg (0b0011#4 ++ regField n ++ regField m ++ 0b1100#4) (.add m n) s n (BitVec.ofNat 32 ((s.reg n).toNat + (s.reg m).toNat)) ∧
    SetsReg (0b0111#4 ++ regField n ++ i) (.addImm i n) s n (BitVec.ofInt 32 ((s.reg n).toInt + i.toInt)) ∧
    SetsReg (0b0110#4 ++ regField n ++ regField m ++ 0b1011#4) (.neg m n) s n (BitVec.ofInt 32 (-(s.reg m).toInt)) ∧
    SetsReg (0b0011#4 ++ regField n ++ regField m ++ 0b1000#4) (.sub m n) s n (BitVec.ofInt 32 ((s.reg n).toInt - (s.reg m).toInt)) ∧
    SetsReg (0b0110#4 ++ regField n ++ regField m ++ 0b1110#4) (.extsB m n) s n (((s.reg m).extractLsb' 0 8).signExtend 32) ∧
    SetsReg (0b0110#4 ++ regField n ++ regField m ++ 0b1111#4) (.extsW m n) s n (((s.reg m).extractLsb' 0 16).signExtend 32) ∧
    SetsReg (0b0110#4 ++ regField n ++ regField m ++ 0b1100#4) (.extuB m n) s n (BitVec.ofNat 32 ((s.reg m).toNat % 2 ^ 8)) ∧
    SetsReg (0b0110#4 ++ regField n ++ regField m ++ 0b1101#4) (.extuW m n) s n (BitVec.ofNat 32 ((s.reg m).toNat % 2 ^ 16))

/-- Arithmetic that writes T (41_arithmetic.md R173, R174, R190, R201, R203, R204). -/
def Obligations.CarryBorrowOverflow : Prop :=
  ∀ (m n : Reg) (s : State),
    SetsRegT (0b0011#4 ++ regField n ++ regField m ++ 0b1110#4) (.addc m n) s n (BitVec.ofNat 32 ((s.reg n).toNat + (s.reg m).toNat + s.flagT.toNat))
      (((s.reg n).toNat + (s.reg m).toNat + s.flagT.toNat) / 2 ^ 32 == 1) ∧
    SetsRegT (0b0011#4 ++ regField n ++ regField m ++ 0b1010#4) (.subc m n) s n (BitVec.ofInt 32 ((s.reg n).toNat - (s.reg m).toNat - s.flagT.toNat))
      (decide (((s.reg n).toNat : Int) - (s.reg m).toNat - s.flagT.toNat < 0)) ∧
    SetsRegT (0b0110#4 ++ regField n ++ regField m ++ 0b1010#4) (.negc m n) s n (BitVec.ofInt 32 (0 - (s.reg m).toNat - s.flagT.toNat))
      (decide ((0 : Int) - (s.reg m).toNat - s.flagT.toNat < 0)) ∧
    SetsRegT (0b0011#4 ++ regField n ++ regField m ++ 0b1111#4) (.addv m n) s n (BitVec.ofInt 32 ((s.reg n).toInt + (s.reg m).toInt))
      (decide ((s.reg n).toInt + (s.reg m).toInt < -2 ^ 31 ∨ (s.reg n).toInt + (s.reg m).toInt > 2 ^ 31 - 1)) ∧
    SetsRegT (0b0011#4 ++ regField n ++ regField m ++ 0b1011#4) (.subv m n) s n (BitVec.ofInt 32 ((s.reg n).toInt - (s.reg m).toInt))
      (decide ((s.reg n).toInt - (s.reg m).toInt < -2 ^ 31 ∨ (s.reg n).toInt - (s.reg m).toInt > 2 ^ 31 - 1)) ∧
    SetsRegT (0b0100#4 ++ regField n ++ 0b00010000#8) (.dt n) s n (s.reg n - 1) (decide (s.reg n = 1))

/-- Compares (41_arithmetic.md R175 to R183). -/
def Obligations.Compares : Prop :=
  ∀ (m n : Reg) (i : BitVec 8) (s : State),
    SetsT (0b10001000#8 ++ i) (.cmpEqImm i) s (decide (s.reg 0 = i.signExtend 32)) ∧
    SetsT (0b0011#4 ++ regField n ++ regField m ++ 0b0000#4) (.cmpEq m n) s (decide (s.reg n = s.reg m)) ∧
    SetsT (0b0011#4 ++ regField n ++ regField m ++ 0b0010#4) (.cmpHs m n) s (decide ((s.reg n).toNat ≥ (s.reg m).toNat)) ∧
    SetsT (0b0011#4 ++ regField n ++ regField m ++ 0b0011#4) (.cmpGe m n) s (decide ((s.reg n).toInt ≥ (s.reg m).toInt)) ∧
    SetsT (0b0011#4 ++ regField n ++ regField m ++ 0b0110#4) (.cmpHi m n) s (decide ((s.reg n).toNat > (s.reg m).toNat)) ∧
    SetsT (0b0011#4 ++ regField n ++ regField m ++ 0b0111#4) (.cmpGt m n) s (decide ((s.reg n).toInt > (s.reg m).toInt)) ∧
    SetsT (0b0100#4 ++ regField n ++ 0b00010001#8) (.cmpPz n) s (decide ((s.reg n).toInt ≥ 0)) ∧
    SetsT (0b0100#4 ++ regField n ++ 0b00010101#8) (.cmpPl n) s (decide ((s.reg n).toInt > 0)) ∧
    SetsT (0b0010#4 ++ regField n ++ regField m ++ 0b1100#4) (.cmpStr m n) s
      (decide (∃ k : Fin 4, (s.reg n).extractLsb' (8 * k.val) 8 = (s.reg m).extractLsb' (8 * k.val) 8))

/-- The start of a division (41_arithmetic.md R184, R185). -/
def Obligations.DivisionSetup : Prop :=
  ∀ (m n : Reg) (s : State),
    (decode (0b0010#4 ++ regField n ++ regField m ++ 0b0111#4) = .ok (.div0s m n) ∧
      Finishes (.div0s m n) s [] [8, 9, 0] [] [] fun t =>
        t.flagQ = (s.reg n).getLsbD 31 ∧ t.flagM = (s.reg m).getLsbD 31 ∧
          t.flagT = ((s.reg n).getLsbD 31 ^^ (s.reg m).getLsbD 31)) ∧
    (decode (0b0000000000011001#16) = .ok .div0u ∧
      Finishes .div0u s [] [9, 8, 0] [] [] fun t => t.flagQ = false ∧ t.flagM = false ∧ t.flagT = false)

/-- One step of division (41_arithmetic.md R186); decision D22 refuses m = n (log 9). -/
def Obligations.DivisionStep : Prop :=
  ∀ (m n : Reg) (s : State) (a d : Nat), a = (2 * (s.reg n).toNat + s.flagT.toNat) % 2 ^ 32 → d = (s.reg m).toNat →
    decode (0b0011#4 ++ regField n ++ regField m ++ 0b0100#4) = .ok (.div1 m n) ∧
      (m ≠ n → Finishes (.div1 m n) s [n] [8, 0] [] [] fun t =>
        let c : Bool := if s.flagQ = s.flagM then decide (a < d) else decide (2 ^ 32 ≤ a + d)
        (t.reg n).toNat = (if s.flagQ = s.flagM then (a + 2 ^ 32 - d) % 2 ^ 32 else (a + d) % 2 ^ 32) ∧
          t.flagQ = ((s.reg n).getLsbD 31 ^^ c ^^ s.flagM) ∧ t.flagT = decide (t.flagQ = s.flagM)) ∧
      (m = n → exec (.div1 m n) s = .refused (.sameRegister n))

/-- Multiplies (41_arithmetic.md R188, R189, R197 to R199). -/
def Obligations.Multiplies : Prop :=
  ∀ (m n : Reg) (s : State),
    (decode (0b0011#4 ++ regField n ++ regField m ++ 0b1101#4) = .ok (.dmulsL m n) ∧
      Finishes (.dmulsL m n) s [] [] [.mach, .macl] [] fun t => t.mac.toInt = (s.reg n).toInt * (s.reg m).toInt) ∧
    (decode (0b0011#4 ++ regField n ++ regField m ++ 0b0101#4) = .ok (.dmuluL m n) ∧
      Finishes (.dmuluL m n) s [] [] [.mach, .macl] [] fun t => t.mac.toNat = (s.reg n).toNat * (s.reg m).toNat) ∧
    (decode (0b0000#4 ++ regField n ++ regField m ++ 0b0111#4) = .ok (.mulL m n) ∧
      Finishes (.mulL m n) s [] [] [.macl] [] fun t => t.macl.toNat = (s.reg n).toNat * (s.reg m).toNat % 2 ^ 32) ∧
    (decode (0b0010#4 ++ regField n ++ regField m ++ 0b1111#4) = .ok (.mulsW m n) ∧
      Finishes (.mulsW m n) s [] [] [.macl] [] fun t =>
        t.macl.toInt = ((s.reg n).extractLsb' 0 16).toInt * ((s.reg m).extractLsb' 0 16).toInt) ∧
    (decode (0b0010#4 ++ regField n ++ regField m ++ 0b1110#4) = .ok (.muluW m n) ∧
      Finishes (.muluW m n) s [] [] [.macl] [] fun t =>
        t.macl.toNat = ((s.reg n).toNat % 2 ^ 16) * ((s.reg m).toNat % 2 ^ 16))

/-- Multiply and accumulate (41_arithmetic.md R195, R196, decision D14); decision D22 refuses m = n (log 8). The oracle
answers the two reads separately (20_memory.md R68; log 22). -/
def Obligations.MacAccumulates : Prop :=
  ∀ (m n : Reg) (s : State),
    (decode (0b0000#4 ++ regField n ++ regField m ++ 0b1111#4) = .ok (.macL m n) ∧
      (∀ a b : Word, m ≠ n → s.Readable 4 (s.reg n) a.toNat → s.nextAnswers.Readable 4 (s.reg m) b.toNat →
        Finishes (.macL m n) s [n, m] [] [.mach, .macl] [] fun t =>
          t.reg n = s.reg n + 4 ∧ t.reg m = s.reg m + 4 ∧
          (s.flagS = false → t.mac = s.mac + BitVec.ofInt 64 (a.toInt * b.toInt)) ∧
          (s.flagS = true → (t.mac.extractLsb' 0 48).toInt =
            max (-2 ^ 47) (min (2 ^ 47 - 1) ((s.mac.extractLsb' 0 48).toInt + a.toInt * b.toInt)))) ∧
      (m ≠ n → s.BadAddress 4 (s.reg n) → Raises (.macL m n) s (.addressError .read (s.reg n))) ∧
      (m = n → exec (.macL m n) s = .refused (.sameRegister n))) ∧
    (decode (0b0100#4 ++ regField n ++ regField m ++ 0b1111#4) = .ok (.macW m n) ∧
      (∀ a b : Half, m ≠ n → s.Readable 2 (s.reg n) a.toNat → s.nextAnswers.Readable 2 (s.reg m) b.toNat →
        Finishes (.macW m n) s [n, m] [] [.mach, .macl] [] fun t =>
          t.reg n = s.reg n + 2 ∧ t.reg m = s.reg m + 2 ∧
          (s.flagS = false → t.mac = s.mac + BitVec.ofInt 64 (a.toInt * b.toInt)) ∧
          (s.flagS = true →
            (s.macl.toInt + a.toInt * b.toInt > 2 ^ 31 - 1 → t.macl = 0x7FFFFFFF ∧ t.mach = s.mach ||| 1) ∧
            (s.macl.toInt + a.toInt * b.toInt < -2 ^ 31 → t.macl = 0x80000000 ∧ t.mach = s.mach ||| 1) ∧
            (-2 ^ 31 ≤ s.macl.toInt + a.toInt * b.toInt → s.macl.toInt + a.toInt * b.toInt ≤ 2 ^ 31 - 1 →
              t.macl.toInt = s.macl.toInt + a.toInt * b.toInt ∧ t.mach = s.mach))) ∧
      (m ≠ n → s.BadAddress 2 (s.reg n) → Raises (.macW m n) s (.addressError .read (s.reg n))) ∧
      (m = n → exec (.macW m n) s = .refused (.sameRegister n)))

/-- A second read of MAC that raises (41_arithmetic.md R195, R196, 60_exceptions.md R376). Whether Rn keeps its increment is
open (U10; log 7). With m = n there is no second read: decision D22 refuses those forms, whatever the address (log 8). -/
def Obligations.MacSecondReadRaises : Prop :=
  ∀ (m n : Reg) (s : State),
    (∀ v, m ≠ n → s.Readable 4 (s.reg n) v → s.BadAddress 4 (s.reg m) →
      ∃ u, (u = s.nextAnswers ∨ u = s.nextAnswers.setReg n (s.reg n + 4)) ∧
        exec (.macL m n) s = .next (({ u with freeCount := s.freeCount + 1 } : State).takeExc (.addressError .read (s.reg m)))) ∧
    (∀ v, m ≠ n → s.Readable 2 (s.reg n) v → s.BadAddress 2 (s.reg m) →
      ∃ u, (u = s.nextAnswers ∨ u = s.nextAnswers.setReg n (s.reg n + 2)) ∧
        exec (.macW m n) s = .next (({ u with freeCount := s.freeCount + 1 } : State).takeExc (.addressError .read (s.reg m)))) ∧
    (m = n → exec (.macL m n) s = .refused (.sameRegister n) ∧ exec (.macW m n) s = .refused (.sameRegister n))

/-- The stops of the second read of MAC (10_state.md R45, 20_memory.md R72; logs 3 and 13 say that they are stops). With m = n
there is no second read: decision D22 refuses those forms, whatever the address (log 8). -/
def Obligations.MacSecondReadStops : Prop :=
  ∀ (m n : Reg) (s : State),
    (∀ v, m ≠ n → s.Readable 4 (s.reg n) v → ¬ s.BadAddress 4 (s.reg m) →
      (0xE0000000 ≤ (s.reg m).toNat → (∀ r, ¬ s.ReachesEvent (s.reg m) r) → exec (.macL m n) s = .refused (.p4Access (s.reg m))) ∧
      ((s.reg m).toNat < 0xE0000000 → (∃ a ∈ span (place (s.reg m)) 4, s.mem.read a = none ∧ a ∉ s.shared) →
        ∃ a ∈ span (place (s.reg m)) 4, (s.mem.read a = none ∧ a ∉ s.shared) ∧ exec (.macL m n) s = .fault (.unwrittenMemory a))) ∧
    (∀ v, m ≠ n → s.Readable 2 (s.reg n) v → ¬ s.BadAddress 2 (s.reg m) →
      (0xE0000000 ≤ (s.reg m).toNat → exec (.macW m n) s = .refused (.p4Access (s.reg m))) ∧
      ((s.reg m).toNat < 0xE0000000 → (∃ a ∈ span (place (s.reg m)) 2, s.mem.read a = none ∧ a ∉ s.shared) →
        ∃ a ∈ span (place (s.reg m)) 2, (s.mem.read a = none ∧ a ∉ s.shared) ∧ exec (.macW m n) s = .fault (.unwrittenMemory a))) ∧
    (m = n → exec (.macL m n) s = .refused (.sameRegister n) ∧ exec (.macW m n) s = .refused (.sameRegister n))

/-- Logic on registers (42_logic.md R221, R222, R224 to R226, R229, R230, R232, R233). -/
def Obligations.LogicRegisters : Prop :=
  ∀ (m n : Reg) (i : BitVec 8) (s : State),
    SetsReg (0b0010#4 ++ regField n ++ regField m ++ 0b1001#4) (.and m n) s n (s.reg n &&& s.reg m) ∧
    SetsReg (0b11001001#8 ++ i) (.andImm i) s 0 (s.reg 0 &&& i.setWidth 32) ∧
    SetsReg (0b0110#4 ++ regField n ++ regField m ++ 0b0111#4) (.not m n) s n (~~~ s.reg m) ∧
    SetsReg (0b0010#4 ++ regField n ++ regField m ++ 0b1011#4) (.or m n) s n (s.reg n ||| s.reg m) ∧
    SetsReg (0b11001011#8 ++ i) (.orImm i) s 0 (s.reg 0 ||| i.setWidth 32) ∧
    SetsReg (0b0010#4 ++ regField n ++ regField m ++ 0b1010#4) (.xor m n) s n (s.reg n ^^^ s.reg m) ∧
    SetsReg (0b11001010#8 ++ i) (.xorImm i) s 0 (s.reg 0 ^^^ i.setWidth 32) ∧
    SetsT (0b0010#4 ++ regField n ++ regField m ++ 0b1000#4) (.tst m n) s (decide (∀ k : Fin 32, ¬ ((s.reg n).getLsbD k = true ∧ (s.reg m).getLsbD k = true))) ∧
    SetsT (0b11001000#8 ++ i) (.tstImm i) s (decide (∀ k : Fin 8, ¬ ((s.reg 0).getLsbD k = true ∧ i.getLsbD k = true)))

/-- Logic on a byte of memory (42_logic.md R223, R227, R228, R231, R234). -/
def Obligations.LogicBytes : Prop :=
  ∀ (n : Reg) (i : BitVec 8) (s : State),
    (decode (0b11001101#8 ++ i) = .ok (.andB i) ∧
      (∀ v : Byte, s.Readable 1 (s.gbr + s.reg 0) v.toNat →
        Finishes (.andB i) s [] [] [] (span (place (s.gbr + s.reg 0)) 1) fun t => t.Holds 1 (place (s.gbr + s.reg 0)) (v &&& i).toNat) ∧
      (s.BadAddress 1 (s.gbr + s.reg 0) → Raises (.andB i) s (.addressError .read (s.gbr + s.reg 0)))) ∧
    (decode (0b11001111#8 ++ i) = .ok (.orB i) ∧
      (∀ v : Byte, s.Readable 1 (s.gbr + s.reg 0) v.toNat →
        Finishes (.orB i) s [] [] [] (span (place (s.gbr + s.reg 0)) 1) fun t => t.Holds 1 (place (s.gbr + s.reg 0)) (v ||| i).toNat) ∧
      (s.BadAddress 1 (s.gbr + s.reg 0) → Raises (.orB i) s (.addressError .read (s.gbr + s.reg 0)))) ∧
    (decode (0b11001110#8 ++ i) = .ok (.xorB i) ∧
      (∀ v : Byte, s.Readable 1 (s.gbr + s.reg 0) v.toNat →
        Finishes (.xorB i) s [] [] [] (span (place (s.gbr + s.reg 0)) 1) fun t => t.Holds 1 (place (s.gbr + s.reg 0)) (v ^^^ i).toNat) ∧
      (s.BadAddress 1 (s.gbr + s.reg 0) → Raises (.xorB i) s (.addressError .read (s.gbr + s.reg 0)))) ∧
    (decode (0b0100#4 ++ regField n ++ 0b00011011#8) = .ok (.tasB n) ∧
      (∀ v : Byte, s.Readable 1 (s.reg n) v.toNat →
        Finishes (.tasB n) s [] [0] [] (span (place (s.reg n)) 1) fun t =>
          t.Holds 1 (place (s.reg n)) (v ||| 0x80).toNat ∧ t.flagT = decide (v = 0)) ∧
      (s.BadAddress 1 (s.reg n) → Raises (.tasB n) s (.addressError .read (s.reg n)))) ∧
    (decode (0b11001100#8 ++ i) = .ok (.tstB i) ∧
      (∀ v : Byte, s.Readable 1 (s.gbr + s.reg 0) v.toNat →
        Finishes (.tstB i) s [] [0] [] [] fun t => t.flagT = decide (v &&& i = 0)) ∧
      (s.BadAddress 1 (s.gbr + s.reg 0) → Raises (.tstB i) s (.addressError .read (s.gbr + s.reg 0))))

/-- One-bit shifts and rotates (43_shift.md R241 to R246, R248, R249). -/
def Obligations.ShiftsByOne : Prop :=
  ∀ (n : Reg) (s : State),
    (∃ v : Word, (∀ k < 32, v.getLsbD k = if k = 0 then (s.reg n).getLsbD 31 else (s.reg n).getLsbD (k - 1)) ∧ SetsRegT (0b0100#4 ++ regField n ++ 0b00000100#8) (.rotl n) s n v ((s.reg n).getLsbD 31)) ∧
    (∃ v : Word, (∀ k < 32, v.getLsbD k = if k = 31 then (s.reg n).getLsbD 0 else (s.reg n).getLsbD (k + 1)) ∧ SetsRegT (0b0100#4 ++ regField n ++ 0b00000101#8) (.rotr n) s n v ((s.reg n).getLsbD 0)) ∧
    (∃ v : Word, (∀ k < 32, v.getLsbD k = if k = 0 then s.flagT else (s.reg n).getLsbD (k - 1)) ∧ SetsRegT (0b0100#4 ++ regField n ++ 0b00100100#8) (.rotcl n) s n v ((s.reg n).getLsbD 31)) ∧
    (∃ v : Word, (∀ k < 32, v.getLsbD k = if k = 31 then s.flagT else (s.reg n).getLsbD (k + 1)) ∧ SetsRegT (0b0100#4 ++ regField n ++ 0b00100101#8) (.rotcr n) s n v ((s.reg n).getLsbD 0)) ∧
    (∃ v : Word, (∀ k < 32, v.getLsbD k = if k = 0 then false else (s.reg n).getLsbD (k - 1)) ∧ SetsRegT (0b0100#4 ++ regField n ++ 0b00100000#8) (.shal n) s n v ((s.reg n).getLsbD 31)) ∧
    (∃ v : Word, (∀ k < 32, v.getLsbD k = if k = 31 then (s.reg n).getLsbD 31 else (s.reg n).getLsbD (k + 1)) ∧ SetsRegT (0b0100#4 ++ regField n ++ 0b00100001#8) (.shar n) s n v ((s.reg n).getLsbD 0)) ∧
    (∃ v : Word, (∀ k < 32, v.getLsbD k = if k = 0 then false else (s.reg n).getLsbD (k - 1)) ∧ SetsRegT (0b0100#4 ++ regField n ++ 0b00000000#8) (.shll n) s n v ((s.reg n).getLsbD 31)) ∧
    (∃ v : Word, (∀ k < 32, v.getLsbD k = if k = 31 then false else (s.reg n).getLsbD (k + 1)) ∧ SetsRegT (0b0100#4 ++ regField n ++ 0b00000001#8) (.shlr n) s n v ((s.reg n).getLsbD 0))

/-- Shifts by more than one (43_shift.md R247, R250 to R256). -/
def Obligations.ShiftsByMore : Prop :=
  ∀ (m n : Reg) (s : State),
    SetsReg (0b0100#4 ++ regField n ++ 0b00001000#8) (.shll2 n) s n (BitVec.ofNat 32 ((s.reg n).toNat * 2 ^ 2)) ∧
    SetsReg (0b0100#4 ++ regField n ++ 0b00011000#8) (.shll8 n) s n (BitVec.ofNat 32 ((s.reg n).toNat * 2 ^ 8)) ∧
    SetsReg (0b0100#4 ++ regField n ++ 0b00101000#8) (.shll16 n) s n (BitVec.ofNat 32 ((s.reg n).toNat * 2 ^ 16)) ∧
    SetsReg (0b0100#4 ++ regField n ++ 0b00001001#8) (.shlr2 n) s n (BitVec.ofNat 32 ((s.reg n).toNat / 2 ^ 2)) ∧
    SetsReg (0b0100#4 ++ regField n ++ 0b00011001#8) (.shlr8 n) s n (BitVec.ofNat 32 ((s.reg n).toNat / 2 ^ 8)) ∧
    SetsReg (0b0100#4 ++ regField n ++ 0b00101001#8) (.shlr16 n) s n (BitVec.ofNat 32 ((s.reg n).toNat / 2 ^ 16)) ∧
    SetsReg (0b0100#4 ++ regField n ++ regField m ++ 0b1100#4) (.shad m n) s n
      (if (s.reg m).getLsbD 31 = false then BitVec.ofNat 32 ((s.reg n).toNat * 2 ^ ((s.reg m).toNat % 32))
        else BitVec.ofInt 32 ((s.reg n).toInt / 2 ^ (32 - (s.reg m).toNat % 32))) ∧
    SetsReg (0b0100#4 ++ regField n ++ regField m ++ 0b1101#4) (.shld m n) s n
      (if (s.reg m).getLsbD 31 = false then BitVec.ofNat 32 ((s.reg n).toNat * 2 ^ ((s.reg m).toNat % 32))
        else BitVec.ofNat 32 ((s.reg n).toNat / 2 ^ (32 - (s.reg m).toNat % 32)))

/-- Conditional branches (44_branch.md R263 to R266). -/
def Obligations.ConditionalBranches : Prop :=
  ∀ (d : BitVec 8) (s : State) (target : Word), target = s.pc + 4 + 2 * d.signExtend 32 →
    Branches (0b10001011#8 ++ d) (.bf d) s (if s.flagT = false then target else s.pc + 2) none [] (fun _ => True) ∧
    Branches (0b10001111#8 ++ d) (.bfS d) s (s.pc + 2) (some (if s.flagT = false then target else s.pc + 4)) [] (fun _ => True) ∧
    Branches (0b10001001#8 ++ d) (.bt d) s (if s.flagT = true then target else s.pc + 2) none [] (fun _ => True) ∧
    Branches (0b10001101#8 ++ d) (.btS d) s (s.pc + 2) (some (if s.flagT = true then target else s.pc + 4)) [] (fun _ => True)

/-- Jumps and calls (44_branch.md R267 to R273). -/
def Obligations.JumpsAndCalls : Prop :=
  ∀ (m : Reg) (d : BitVec 12) (s : State),
    Branches (0b1010#4 ++ d) (.bra d) s (s.pc + 2) (some (s.pc + 4 + 2 * d.signExtend 32)) [] (fun _ => True) ∧
    Branches (0b0000#4 ++ regField m ++ 0b00100011#8) (.braf m) s (s.pc + 2) (some (s.pc + 4 + s.reg m)) [] (fun _ => True) ∧
    Branches (0b1011#4 ++ d) (.bsr d) s (s.pc + 2) (some (s.pc + 4 + 2 * d.signExtend 32)) [.pr] (fun t => t.pr = s.pc + 4) ∧
    Branches (0b0000#4 ++ regField m ++ 0b00000011#8) (.bsrf m) s (s.pc + 2) (some (s.pc + 4 + s.reg m)) [.pr] (fun t => t.pr = s.pc + 4) ∧
    Branches (0b0100#4 ++ regField m ++ 0b00101011#8) (.jmp m) s (s.pc + 2) (some (s.reg m)) [] (fun _ => True) ∧
    Branches (0b0100#4 ++ regField m ++ 0b00001011#8) (.jsr m) s (s.pc + 2) (some (s.reg m)) [.pr] (fun t => t.pr = s.pc + 4) ∧
    Branches (0b0000000000001011#16) .rts s (s.pc + 2) (some s.pr) [] (fun _ => True)

/-- Clears, sets and no-operations (45_system_control.md R281 to R286, R311). -/
def Obligations.ClearsAndNop : Prop :=
  ∀ (n : Reg) (s : State),
    (decode (0b0000000000101000#16) = .ok .clrmac ∧ Finishes .clrmac s [] [] [.mach, .macl] [] fun t => t.mach = 0 ∧ t.macl = 0) ∧
    (decode (0b0000000001001000#16) = .ok .clrs ∧ Finishes .clrs s [] [1] [] [] fun t => t.flagS = false) ∧
    SetsT (0b0000000000001000#16) .clrt s false ∧
    (decode (0b0000000001011000#16) = .ok .sets ∧ Finishes .sets s [] [1] [] [] fun t => t.flagS = true) ∧
    SetsT (0b0000000000011000#16) .sett s true ∧
    (decode (0b0000000000001001#16) = .ok .nop ∧ Finishes .nop s [] [] [] [] fun _ => True) ∧
    (decode (0b0000#4 ++ regField n ++ 0b10000011#8) = .ok (.pref n) ∧ Finishes (.pref n) s [] [] [] [] fun _ => True)

/-- Loads of control and system registers (45_system_control.md R288 to R291, R297 to R300). -/
def Obligations.LoadControlRegisters : Prop :=
  ∀ (m : Reg) (b : BankReg) (s : State),
    SetsPart (0b0100#4 ++ regField m ++ 0b00011110#8) (.ldcGbr m) s .gbr (s.reg m) ∧
    OnlyPrivileged (.ldcVbr m) s (SetsPart (0b0100#4 ++ regField m ++ 0b00101110#8) (.ldcVbr m) s .vbr (s.reg m)) ∧
    OnlyPrivileged (.ldcSsr m) s (SetsPart (0b0100#4 ++ regField m ++ 0b00111110#8) (.ldcSsr m) s .ssr (s.reg m)) ∧
    OnlyPrivileged (.ldcSpc m) s (SetsPart (0b0100#4 ++ regField m ++ 0b01001110#8) (.ldcSpc m) s .spc (s.reg m)) ∧
    OnlyPrivileged (.ldcBank m b) s (SetsPart (0b0100#4 ++ regField m ++ bankField b ++ 0b1110#4) (.ldcBank m b) s (.back b) (s.reg m)) ∧
    SetsPart (0b0100#4 ++ regField m ++ 0b00001010#8) (.ldsMach m) s .mach (s.reg m) ∧
    SetsPart (0b0100#4 ++ regField m ++ 0b00011010#8) (.ldsMacl m) s .macl (s.reg m) ∧
    SetsPart (0b0100#4 ++ regField m ++ 0b00101010#8) (.ldsPr m) s .pr (s.reg m)

/-- Stores of control and system registers (45_system_control.md R302, R308 to R310, R313, R314, R320, R321, R323). -/
def Obligations.StoreControlRegisters : Prop :=
  ∀ (n : Reg) (b : BankReg) (s : State),
    SetsReg (0b0000#4 ++ regField n ++ 0b00010010#8) (.stcGbr n) s n s.gbr ∧
    OnlyPrivileged (.stcSr n) s (SetsReg (0b0000#4 ++ regField n ++ 0b00000010#8) (.stcSr n) s n (s.sr &&& 0x700003F3)) ∧
    OnlyPrivileged (.stcVbr n) s (SetsReg (0b0000#4 ++ regField n ++ 0b00100010#8) (.stcVbr n) s n (s.vbr)) ∧
    OnlyPrivileged (.stcSsr n) s (SetsReg (0b0000#4 ++ regField n ++ 0b00110010#8) (.stcSsr n) s n (s.ssr)) ∧
    OnlyPrivileged (.stcSpc n) s (SetsReg (0b0000#4 ++ regField n ++ 0b01000010#8) (.stcSpc n) s n (s.spc)) ∧
    OnlyPrivileged (.stcBank b n) s (SetsReg (0b0000#4 ++ regField n ++ bankField b ++ 0b0010#4) (.stcBank b n) s n (s.part (.back b))) ∧
    SetsReg (0b0000#4 ++ regField n ++ 0b00001010#8) (.stsMach n) s n s.mach ∧
    SetsReg (0b0000#4 ++ regField n ++ 0b00011010#8) (.stsMacl n) s n s.macl ∧
    SetsReg (0b0000#4 ++ regField n ++ 0b00101010#8) (.stsPr n) s n s.pr

/-- Pops of control and system registers (45_system_control.md R293 to R296, R301, R304 to R306). -/
def Obligations.PopControlRegisters : Prop :=
  ∀ (m : Reg) (b : BankReg) (s : State),
    (decode (0b0100#4 ++ regField m ++ 0b00010111#8) = .ok (.ldcLGbr m) ∧
      (∀ v : Word, s.Readable 4 (s.reg m) v.toNat →
        Finishes (.ldcLGbr m) s [m] [] [.gbr] [] fun t => t.part .gbr = v ∧ t.reg m = s.reg m + 4) ∧
      (s.BadAddress 4 (s.reg m) → Raises (.ldcLGbr m) s (.addressError .read (s.reg m)))) ∧
    (decode (0b0100#4 ++ regField m ++ 0b00100111#8) = .ok (.ldcLVbr m) ∧
      OnlyPrivileged (.ldcLVbr m) s ((∀ v : Word, s.Readable 4 (s.reg m) v.toNat →
        Finishes (.ldcLVbr m) s [m] [] [.vbr] [] fun t => t.part .vbr = v ∧ t.reg m = s.reg m + 4) ∧
      (s.BadAddress 4 (s.reg m) → Raises (.ldcLVbr m) s (.addressError .read (s.reg m))))) ∧
    (decode (0b0100#4 ++ regField m ++ 0b00110111#8) = .ok (.ldcLSsr m) ∧
      OnlyPrivileged (.ldcLSsr m) s ((∀ v : Word, s.Readable 4 (s.reg m) v.toNat →
        Finishes (.ldcLSsr m) s [m] [] [.ssr] [] fun t => t.part .ssr = v ∧ t.reg m = s.reg m + 4) ∧
      (s.BadAddress 4 (s.reg m) → Raises (.ldcLSsr m) s (.addressError .read (s.reg m))))) ∧
    (decode (0b0100#4 ++ regField m ++ 0b01000111#8) = .ok (.ldcLSpc m) ∧
      OnlyPrivileged (.ldcLSpc m) s ((∀ v : Word, s.Readable 4 (s.reg m) v.toNat →
        Finishes (.ldcLSpc m) s [m] [] [.spc] [] fun t => t.part .spc = v ∧ t.reg m = s.reg m + 4) ∧
      (s.BadAddress 4 (s.reg m) → Raises (.ldcLSpc m) s (.addressError .read (s.reg m))))) ∧
    (decode (0b0100#4 ++ regField m ++ bankField b ++ 0b0111#4) = .ok (.ldcLBank m b) ∧
      OnlyPrivileged (.ldcLBank m b) s ((∀ v : Word, s.Readable 4 (s.reg m) v.toNat →
        Finishes (.ldcLBank m b) s [m] [] [.back b] [] fun t => t.part (.back b) = v ∧ t.reg m = s.reg m + 4) ∧
      (s.BadAddress 4 (s.reg m) → Raises (.ldcLBank m b) s (.addressError .read (s.reg m))))) ∧
    (decode (0b0100#4 ++ regField m ++ 0b00000110#8) = .ok (.ldsLMach m) ∧
      (∀ v : Word, s.Readable 4 (s.reg m) v.toNat →
        Finishes (.ldsLMach m) s [m] [] [.mach] [] fun t => t.part .mach = v ∧ t.reg m = s.reg m + 4) ∧
      (s.BadAddress 4 (s.reg m) → Raises (.ldsLMach m) s (.addressError .read (s.reg m)))) ∧
    (decode (0b0100#4 ++ regField m ++ 0b00010110#8) = .ok (.ldsLMacl m) ∧
      (∀ v : Word, s.Readable 4 (s.reg m) v.toNat →
        Finishes (.ldsLMacl m) s [m] [] [.macl] [] fun t => t.part .macl = v ∧ t.reg m = s.reg m + 4) ∧
      (s.BadAddress 4 (s.reg m) → Raises (.ldsLMacl m) s (.addressError .read (s.reg m)))) ∧
    (decode (0b0100#4 ++ regField m ++ 0b00100110#8) = .ok (.ldsLPr m) ∧
      (∀ v : Word, s.Readable 4 (s.reg m) v.toNat →
        Finishes (.ldsLPr m) s [m] [] [.pr] [] fun t => t.part .pr = v ∧ t.reg m = s.reg m + 4) ∧
      (s.BadAddress 4 (s.reg m) → Raises (.ldsLPr m) s (.addressError .read (s.reg m))))

/-- Pushes of control and system registers (45_system_control.md R303, R315 to R319, R324 to R326). -/
def Obligations.PushControlRegisters : Prop :=
  ∀ (n : Reg) (b : BankReg) (s : State),
    OnlyPrivileged (.stcLSr n) s (StoresReg (0b0100#4 ++ regField n ++ 0b00000011#8) (.stcLSr n) s 4 (s.reg n - 4) (s.sr &&& 0x700003F3) [n]
      (fun t => t.reg n = s.reg n - 4)) ∧
    StoresReg (0b0100#4 ++ regField n ++ 0b00010011#8) (.stcLGbr n) s 4 (s.reg n - 4) (s.gbr) [n]
      (fun t => t.reg n = s.reg n - 4) ∧
    OnlyPrivileged (.stcLVbr n) s (StoresReg (0b0100#4 ++ regField n ++ 0b00100011#8) (.stcLVbr n) s 4 (s.reg n - 4) (s.vbr) [n]
      (fun t => t.reg n = s.reg n - 4)) ∧
    OnlyPrivileged (.stcLSsr n) s (StoresReg (0b0100#4 ++ regField n ++ 0b00110011#8) (.stcLSsr n) s 4 (s.reg n - 4) (s.ssr) [n]
      (fun t => t.reg n = s.reg n - 4)) ∧
    OnlyPrivileged (.stcLSpc n) s (StoresReg (0b0100#4 ++ regField n ++ 0b01000011#8) (.stcLSpc n) s 4 (s.reg n - 4) (s.spc) [n]
      (fun t => t.reg n = s.reg n - 4)) ∧
    OnlyPrivileged (.stcLBank b n) s (StoresReg (0b0100#4 ++ regField n ++ bankField b ++ 0b0011#4) (.stcLBank b n) s 4 (s.reg n - 4) (s.part (.back b)) [n]
      (fun t => t.reg n = s.reg n - 4)) ∧
    StoresReg (0b0100#4 ++ regField n ++ 0b00000010#8) (.stsLMach n) s 4 (s.reg n - 4) (s.mach) [n]
      (fun t => t.reg n = s.reg n - 4) ∧
    StoresReg (0b0100#4 ++ regField n ++ 0b00010010#8) (.stsLMacl n) s 4 (s.reg n - 4) (s.macl) [n]
      (fun t => t.reg n = s.reg n - 4) ∧
    StoresReg (0b0100#4 ++ regField n ++ 0b00100010#8) (.stsLPr n) s 4 (s.reg n - 4) (s.pr) [n]
      (fun t => t.reg n = s.reg n - 4)

/-- Writes of SR (45_system_control.md R287, R292). -/
def Obligations.LoadStatusRegister : Prop :=
  ∀ (m : Reg) (s : State),
    decode (0b0100#4 ++ regField m ++ 0b00001110#8) = .ok (.ldcSr m) ∧ decode (0b0100#4 ++ regField m ++ 0b00000111#8) = .ok (.ldcLSr m) ∧
    (s.slot = none → s.privileged = true →
      exec (.ldcSr m) s = .next { s with sr := s.reg m &&& 0x700003F3, pc := s.pc + 2, oracleCount := s.oracleCount + 1 } ∧
      (∀ v : Word, s.Readable 4 (s.reg m) v.toNat →
        exec (.ldcLSr m) s =
          .next { s.setReg m (s.reg m + 4) with
            sr := v &&& 0x700003F3, pc := s.pc + 2, oracleCount := s.oracleCount + 1 }) ∧
      (s.BadAddress 4 (s.reg m) → Raises (.ldcLSr m) s (.addressError .read (s.reg m)))) ∧
    (s.slot ≠ none → Raises (.ldcSr m) s .illegalSlot ∧ Raises (.ldcLSr m) s .illegalSlot) ∧
    (s.slot = none → s.privileged = false →
      Raises (.ldcSr m) s .reservedInstruction ∧ Raises (.ldcLSr m) s .reservedInstruction)

/-- Exception entry by TRAPA and return by RTE (45_system_control.md R322, R327). That RTE restores SR at once, before the slot
instruction, is decision D16, which the model follows as log 17 says. -/
def Obligations.TrapAndReturn : Prop :=
  ∀ (i : BitVec 8) (s : State),
    decode (0b11000011#8 ++ i) = .ok (.trapa i) ∧ decode (0b0000000000101011#16) = .ok .rte ∧
    (s.slot = none → s.blocked = false →
      exec (.trapa i) s =
        .next { s with
          tra := i.setWidth 32 <<< 2
          expevt := 0x160
          spc := s.pc + 2
          ssr := s.sr &&& 0x700003F3
          sr := (s.sr &&& 0x700003F3) ||| 0x70000000
          asleep := false
          pc := s.vbr + 0x100 }) ∧
    (s.slot = none → s.privileged = true →
      exec .rte s =
        .next { s with sr := s.ssr &&& 0x700003F3, pc := s.pc + 2, slot := some s.spc }) ∧
    (s.slot ≠ none → Raises (.trapa i) s .illegalSlot ∧ Raises .rte s .illegalSlot) ∧
    (s.slot = none → s.privileged = false → Raises .rte s .reservedInstruction)

/-- SLEEP (45_system_control.md R312), and LDTLB, whose write of the TLB is refused (20_memory.md R66, R73,
45_system_control.md R307, decision D6; log 11): outside user mode it stops on every path. -/
def Obligations.SleepAndLdtlb : Prop :=
  ∀ s : State,
    decode (0b0000000000011011#16) = .ok .sleep ∧ decode (0b0000000000111000#16) = .ok .ldtlb ∧
    OnlyPrivileged .sleep s
      (exec .sleep s =
        .next { s with
          asleep := true, pc := s.slot.getD (s.pc + 2), slot := none, oracleCount := s.oracleCount + 1 }) ∧
    OnlyPrivileged .ldtlb s (exec .ldtlb s = .refused .tlbWrite)
end

