-- ==== Sys2Proof/Laws/Encoding.lean ====
section
/-! SUPPORT. The four nibbles of a word that is written as a concatenation of its fields, and what the decoder answers on
such a word. -/

namespace Sys2Proof

theorem toNat_append4 {w : Nat} (x : BitVec w) (b : BitVec 4) : (x ++ b).toNat = 16 * x.toNat + b.toNat := by
  rw [BitVec.toNat_append, ← Nat.shiftLeft_add_eq_or_of_lt b.isLt]; omega

theorem toNat_nibble (w : Half) (k : Nat) : (nibble w k).toNat = w.toNat / 2 ^ (4 * k) % 16 := by
  simp [nibble, Nat.shiftRight_eq_div_pow]

/-- The number that four fields of four bits make. -/
theorem toNat_fields (a n m d : BitVec 4) :
    (a ++ n ++ m ++ d : Half).toNat = 4096 * a.toNat + 256 * n.toNat + 16 * m.toNat + d.toNat := by
  simp only [toNat_append4]; omega

@[simp] theorem nibble3_fields (a n m d : BitVec 4) : nibble (a ++ n ++ m ++ d) 3 = a := by
  apply BitVec.eq_of_toNat_eq; rw [toNat_nibble, toNat_fields]; omega

@[simp] theorem nibble2_fields (a n m d : BitVec 4) : nibble (a ++ n ++ m ++ d) 2 = n := by
  apply BitVec.eq_of_toNat_eq; rw [toNat_nibble, toNat_fields]; omega

@[simp] theorem nibble1_fields (a n m d : BitVec 4) : nibble (a ++ n ++ m ++ d) 1 = m := by
  apply BitVec.eq_of_toNat_eq; rw [toNat_nibble, toNat_fields]; omega

@[simp] theorem nibble0_fields (a n m d : BitVec 4) : nibble (a ++ n ++ m ++ d) 0 = d := by
  apply BitVec.eq_of_toNat_eq; rw [toNat_nibble, toNat_fields]; omega

/-- A word is made of its nibbles. -/
theorem fields_nibble (w : Half) : nibble w 3 ++ nibble w 2 ++ nibble w 1 ++ nibble w 0 = w := by
  apply BitVec.eq_of_toNat_eq; rw [toNat_fields]; simp only [toNat_nibble]; omega

/-- A byte is made of its two halves. -/
theorem halves_append (x : BitVec 8) : x.extractLsb' 4 4 ++ x.extractLsb' 0 4 = x := by
  apply BitVec.eq_of_toNat_eq
  rw [toNat_append4]
  simp only [BitVec.extractLsb'_toNat, Nat.shiftRight_eq_div_pow]
  omega

/-- A 12-bit field is made of its three nibbles. -/
theorem thirds_append (x : BitVec 12) : x.extractLsb' 8 4 ++ x.extractLsb' 4 4 ++ x.extractLsb' 0 4 = x := by
  apply BitVec.eq_of_toNat_eq
  simp only [toNat_append4, BitVec.extractLsb'_toNat, Nat.shiftRight_eq_div_pow]
  omega

/-- The decoder on a word of four fields. -/
theorem decode_fields (a n m d : BitVec 4) : decode (a ++ n ++ m ++ d) =
    match decodeNibbles a n m d with
    | some i => .ok i
    | none => .error (.reservedWord (a ++ n ++ m ++ d)) := by
  cases h : decodeNibbles a n m d <;> simp [decode, h]

/-- The decoder on a word of four fields that is an instruction. -/
theorem decode_of_fields {a n m d : BitVec 4} {i : Instr} (h : decodeNibbles a n m d = some i) :
    decode (a ++ n ++ m ++ d) = .ok i := by
  rw [decode_fields, h]

theorem byte_field (a n : BitVec 4) (x : BitVec 8) :
    (a ++ n ++ x : Half) = a ++ n ++ x.extractLsb' 4 4 ++ x.extractLsb' 0 4 := by
  apply BitVec.eq_of_toNat_eq
  rw [toNat_fields, BitVec.toNat_append, ← Nat.shiftLeft_add_eq_or_of_lt x.isLt, toNat_append4]
  simp only [BitVec.extractLsb'_toNat, Nat.shiftRight_eq_div_pow, Nat.shiftLeft_eq]
  omega

/-- The decoder on a word that ends in an 8-bit field. -/
theorem decode_of_byte {a n : BitVec 4} {x : BitVec 8} {i : Instr}
    (h : decodeNibbles a n (x.extractLsb' 4 4) (x.extractLsb' 0 4) = some i) : decode (a ++ n ++ x) = .ok i := by
  rw [byte_field]; exact decode_of_fields h

theorem top_field (t : BitVec 8) (m d : BitVec 4) :
    (t ++ m ++ d : Half) = t.extractLsb' 4 4 ++ t.extractLsb' 0 4 ++ m ++ d := by
  rw [halves_append]

/-- The decoder on a word that begins with an 8-bit opcode. -/
theorem decode_of_top {t : BitVec 8} {m d : BitVec 4} {i : Instr}
    (h : decodeNibbles (t.extractLsb' 4 4) (t.extractLsb' 0 4) m d = some i) : decode (t ++ m ++ d) = .ok i := by
  rw [top_field]; exact decode_of_fields h

/-- The decoder on a word of an 8-bit opcode and an 8-bit field. -/
theorem decode_of_top_byte {t x : BitVec 8} {i : Instr}
    (h : decodeNibbles (t.extractLsb' 4 4) (t.extractLsb' 0 4) (x.extractLsb' 4 4) (x.extractLsb' 0 4) = some i) :
    decode (t ++ x) = .ok i := by
  conv_lhs => rw [← halves_append t]
  exact decode_of_byte h

theorem displacement_field (a : BitVec 4) (x : BitVec 12) :
    (a ++ x : Half) = a ++ x.extractLsb' 8 4 ++ x.extractLsb' 4 4 ++ x.extractLsb' 0 4 := by
  apply BitVec.eq_of_toNat_eq
  rw [toNat_fields, BitVec.toNat_append, ← Nat.shiftLeft_add_eq_or_of_lt x.isLt]
  simp only [BitVec.extractLsb'_toNat, Nat.shiftRight_eq_div_pow, Nat.shiftLeft_eq]
  omega

/-- The decoder on a word of a 4-bit opcode and a 12-bit field. -/
theorem decode_of_displacement {a : BitVec 4} {x : BitVec 12} {i : Instr}
    (h : decodeNibbles a (x.extractLsb' 8 4) (x.extractLsb' 4 4) (x.extractLsb' 0 4) = some i) :
    decode (a ++ x) = .ok i := by
  rw [displacement_field]; exact decode_of_fields h

/-! ## Register fields -/

@[simp] theorem regOf_regField (r : Reg) : regOf (regField r) = r := rfl

@[simp] theorem regField_regOf (f : BitVec 4) : regField (regOf f) = f := rfl

@[simp] theorem bankRegOf_bankField (b : BankReg) : bankRegOf (bankField b) = b := by
  revert b; decide

@[simp] theorem bankField_top (b : BankReg) : (bankField b).getLsbD 3 = true := by
  revert b; decide

/-- A bank field is none of the values 0 to 7 of its nibble. -/
theorem bankField_ge (b : BankReg) : 8 ≤ (bankField b).toNat := by
  revert b; decide

theorem bankField_bankRegOf {f : BitVec 4} (h : f.getLsbD 3 = true) : bankField (bankRegOf f) = f := by
  revert f; decide

end Sys2Proof
end

