-- ==== Sys2Proof/Laws/State.lean ====
section
/-! SUPPORT. What every field of State is after every named update: one lemma per field and update. -/

namespace Sys2Proof.Machine

variable (s : State)

/-! ### State.setGbr -/

@[simp] theorem State.setGbr_bank0 (v : Word) : (s.setGbr v).bank0 = s.bank0 := rfl
@[simp] theorem State.setGbr_bank1 (v : Word) : (s.setGbr v).bank1 = s.bank1 := rfl
@[simp] theorem State.setGbr_high (v : Word) : (s.setGbr v).high = s.high := rfl
@[simp] theorem State.setGbr_pc (v : Word) : (s.setGbr v).pc = s.pc := rfl
@[simp] theorem State.setGbr_slot (v : Word) : (s.setGbr v).slot = s.slot := rfl
@[simp] theorem State.setGbr_sr (v : Word) : (s.setGbr v).sr = s.sr := rfl
@[simp] theorem State.setGbr_gbr (v : Word) : (s.setGbr v).gbr = v := rfl
@[simp] theorem State.setGbr_vbr (v : Word) : (s.setGbr v).vbr = s.vbr := rfl
@[simp] theorem State.setGbr_ssr (v : Word) : (s.setGbr v).ssr = s.ssr := rfl
@[simp] theorem State.setGbr_spc (v : Word) : (s.setGbr v).spc = s.spc := rfl
@[simp] theorem State.setGbr_mach (v : Word) : (s.setGbr v).mach = s.mach := rfl
@[simp] theorem State.setGbr_macl (v : Word) : (s.setGbr v).macl = s.macl := rfl
@[simp] theorem State.setGbr_pr (v : Word) : (s.setGbr v).pr = s.pr := rfl
@[simp] theorem State.setGbr_tra (v : Word) : (s.setGbr v).tra = s.tra := rfl
@[simp] theorem State.setGbr_expevt (v : Word) : (s.setGbr v).expevt = s.expevt := rfl
@[simp] theorem State.setGbr_intevt (v : Word) : (s.setGbr v).intevt = s.intevt := rfl
@[simp] theorem State.setGbr_asleep (v : Word) : (s.setGbr v).asleep = s.asleep := rfl
@[simp] theorem State.setGbr_resetPin (v : Word) : (s.setGbr v).resetPin = s.resetPin := rfl
@[simp] theorem State.setGbr_nmi (v : Word) : (s.setGbr v).nmi = s.nmi := rfl
@[simp] theorem State.setGbr_level (v : Word) : (s.setGbr v).level = s.level := rfl
@[simp] theorem State.setGbr_endian (v : Word) : (s.setGbr v).endian = s.endian := rfl
@[simp] theorem State.setGbr_mem (v : Word) : (s.setGbr v).mem = s.mem := rfl
@[simp] theorem State.setGbr_storedTo (v : Word) : (s.setGbr v).storedTo = s.storedTo := rfl
@[simp] theorem State.setGbr_shared (v : Word) : (s.setGbr v).shared = s.shared := rfl
@[simp] theorem State.setGbr_freeCount (v : Word) : (s.setGbr v).freeCount = s.freeCount := rfl
@[simp] theorem State.setGbr_oracleCount (v : Word) : (s.setGbr v).oracleCount = s.oracleCount := rfl

/-! ### State.setVbr -/

@[simp] theorem State.setVbr_bank0 (v : Word) : (s.setVbr v).bank0 = s.bank0 := rfl
@[simp] theorem State.setVbr_bank1 (v : Word) : (s.setVbr v).bank1 = s.bank1 := rfl
@[simp] theorem State.setVbr_high (v : Word) : (s.setVbr v).high = s.high := rfl
@[simp] theorem State.setVbr_pc (v : Word) : (s.setVbr v).pc = s.pc := rfl
@[simp] theorem State.setVbr_slot (v : Word) : (s.setVbr v).slot = s.slot := rfl
@[simp] theorem State.setVbr_sr (v : Word) : (s.setVbr v).sr = s.sr := rfl
@[simp] theorem State.setVbr_gbr (v : Word) : (s.setVbr v).gbr = s.gbr := rfl
@[simp] theorem State.setVbr_vbr (v : Word) : (s.setVbr v).vbr = v := rfl
@[simp] theorem State.setVbr_ssr (v : Word) : (s.setVbr v).ssr = s.ssr := rfl
@[simp] theorem State.setVbr_spc (v : Word) : (s.setVbr v).spc = s.spc := rfl
@[simp] theorem State.setVbr_mach (v : Word) : (s.setVbr v).mach = s.mach := rfl
@[simp] theorem State.setVbr_macl (v : Word) : (s.setVbr v).macl = s.macl := rfl
@[simp] theorem State.setVbr_pr (v : Word) : (s.setVbr v).pr = s.pr := rfl
@[simp] theorem State.setVbr_tra (v : Word) : (s.setVbr v).tra = s.tra := rfl
@[simp] theorem State.setVbr_expevt (v : Word) : (s.setVbr v).expevt = s.expevt := rfl
@[simp] theorem State.setVbr_intevt (v : Word) : (s.setVbr v).intevt = s.intevt := rfl
@[simp] theorem State.setVbr_asleep (v : Word) : (s.setVbr v).asleep = s.asleep := rfl
@[simp] theorem State.setVbr_resetPin (v : Word) : (s.setVbr v).resetPin = s.resetPin := rfl
@[simp] theorem State.setVbr_nmi (v : Word) : (s.setVbr v).nmi = s.nmi := rfl
@[simp] theorem State.setVbr_level (v : Word) : (s.setVbr v).level = s.level := rfl
@[simp] theorem State.setVbr_endian (v : Word) : (s.setVbr v).endian = s.endian := rfl
@[simp] theorem State.setVbr_mem (v : Word) : (s.setVbr v).mem = s.mem := rfl
@[simp] theorem State.setVbr_storedTo (v : Word) : (s.setVbr v).storedTo = s.storedTo := rfl
@[simp] theorem State.setVbr_shared (v : Word) : (s.setVbr v).shared = s.shared := rfl
@[simp] theorem State.setVbr_freeCount (v : Word) : (s.setVbr v).freeCount = s.freeCount := rfl
@[simp] theorem State.setVbr_oracleCount (v : Word) : (s.setVbr v).oracleCount = s.oracleCount := rfl

/-! ### State.setSsr -/

@[simp] theorem State.setSsr_bank0 (v : Word) : (s.setSsr v).bank0 = s.bank0 := rfl
@[simp] theorem State.setSsr_bank1 (v : Word) : (s.setSsr v).bank1 = s.bank1 := rfl
@[simp] theorem State.setSsr_high (v : Word) : (s.setSsr v).high = s.high := rfl
@[simp] theorem State.setSsr_pc (v : Word) : (s.setSsr v).pc = s.pc := rfl
@[simp] theorem State.setSsr_slot (v : Word) : (s.setSsr v).slot = s.slot := rfl
@[simp] theorem State.setSsr_sr (v : Word) : (s.setSsr v).sr = s.sr := rfl
@[simp] theorem State.setSsr_gbr (v : Word) : (s.setSsr v).gbr = s.gbr := rfl
@[simp] theorem State.setSsr_vbr (v : Word) : (s.setSsr v).vbr = s.vbr := rfl
@[simp] theorem State.setSsr_ssr (v : Word) : (s.setSsr v).ssr = v := rfl
@[simp] theorem State.setSsr_spc (v : Word) : (s.setSsr v).spc = s.spc := rfl
@[simp] theorem State.setSsr_mach (v : Word) : (s.setSsr v).mach = s.mach := rfl
@[simp] theorem State.setSsr_macl (v : Word) : (s.setSsr v).macl = s.macl := rfl
@[simp] theorem State.setSsr_pr (v : Word) : (s.setSsr v).pr = s.pr := rfl
@[simp] theorem State.setSsr_tra (v : Word) : (s.setSsr v).tra = s.tra := rfl
@[simp] theorem State.setSsr_expevt (v : Word) : (s.setSsr v).expevt = s.expevt := rfl
@[simp] theorem State.setSsr_intevt (v : Word) : (s.setSsr v).intevt = s.intevt := rfl
@[simp] theorem State.setSsr_asleep (v : Word) : (s.setSsr v).asleep = s.asleep := rfl
@[simp] theorem State.setSsr_resetPin (v : Word) : (s.setSsr v).resetPin = s.resetPin := rfl
@[simp] theorem State.setSsr_nmi (v : Word) : (s.setSsr v).nmi = s.nmi := rfl
@[simp] theorem State.setSsr_level (v : Word) : (s.setSsr v).level = s.level := rfl
@[simp] theorem State.setSsr_endian (v : Word) : (s.setSsr v).endian = s.endian := rfl
@[simp] theorem State.setSsr_mem (v : Word) : (s.setSsr v).mem = s.mem := rfl
@[simp] theorem State.setSsr_storedTo (v : Word) : (s.setSsr v).storedTo = s.storedTo := rfl
@[simp] theorem State.setSsr_shared (v : Word) : (s.setSsr v).shared = s.shared := rfl
@[simp] theorem State.setSsr_freeCount (v : Word) : (s.setSsr v).freeCount = s.freeCount := rfl
@[simp] theorem State.setSsr_oracleCount (v : Word) : (s.setSsr v).oracleCount = s.oracleCount := rfl

/-! ### State.setSpc -/

@[simp] theorem State.setSpc_bank0 (v : Word) : (s.setSpc v).bank0 = s.bank0 := rfl
@[simp] theorem State.setSpc_bank1 (v : Word) : (s.setSpc v).bank1 = s.bank1 := rfl
@[simp] theorem State.setSpc_high (v : Word) : (s.setSpc v).high = s.high := rfl
@[simp] theorem State.setSpc_pc (v : Word) : (s.setSpc v).pc = s.pc := rfl
@[simp] theorem State.setSpc_slot (v : Word) : (s.setSpc v).slot = s.slot := rfl
@[simp] theorem State.setSpc_sr (v : Word) : (s.setSpc v).sr = s.sr := rfl
@[simp] theorem State.setSpc_gbr (v : Word) : (s.setSpc v).gbr = s.gbr := rfl
@[simp] theorem State.setSpc_vbr (v : Word) : (s.setSpc v).vbr = s.vbr := rfl
@[simp] theorem State.setSpc_ssr (v : Word) : (s.setSpc v).ssr = s.ssr := rfl
@[simp] theorem State.setSpc_spc (v : Word) : (s.setSpc v).spc = v := rfl
@[simp] theorem State.setSpc_mach (v : Word) : (s.setSpc v).mach = s.mach := rfl
@[simp] theorem State.setSpc_macl (v : Word) : (s.setSpc v).macl = s.macl := rfl
@[simp] theorem State.setSpc_pr (v : Word) : (s.setSpc v).pr = s.pr := rfl
@[simp] theorem State.setSpc_tra (v : Word) : (s.setSpc v).tra = s.tra := rfl
@[simp] theorem State.setSpc_expevt (v : Word) : (s.setSpc v).expevt = s.expevt := rfl
@[simp] theorem State.setSpc_intevt (v : Word) : (s.setSpc v).intevt = s.intevt := rfl
@[simp] theorem State.setSpc_asleep (v : Word) : (s.setSpc v).asleep = s.asleep := rfl
@[simp] theorem State.setSpc_resetPin (v : Word) : (s.setSpc v).resetPin = s.resetPin := rfl
@[simp] theorem State.setSpc_nmi (v : Word) : (s.setSpc v).nmi = s.nmi := rfl
@[simp] theorem State.setSpc_level (v : Word) : (s.setSpc v).level = s.level := rfl
@[simp] theorem State.setSpc_endian (v : Word) : (s.setSpc v).endian = s.endian := rfl
@[simp] theorem State.setSpc_mem (v : Word) : (s.setSpc v).mem = s.mem := rfl
@[simp] theorem State.setSpc_storedTo (v : Word) : (s.setSpc v).storedTo = s.storedTo := rfl
@[simp] theorem State.setSpc_shared (v : Word) : (s.setSpc v).shared = s.shared := rfl
@[simp] theorem State.setSpc_freeCount (v : Word) : (s.setSpc v).freeCount = s.freeCount := rfl
@[simp] theorem State.setSpc_oracleCount (v : Word) : (s.setSpc v).oracleCount = s.oracleCount := rfl

/-! ### State.setMach -/

@[simp] theorem State.setMach_bank0 (v : Word) : (s.setMach v).bank0 = s.bank0 := rfl
@[simp] theorem State.setMach_bank1 (v : Word) : (s.setMach v).bank1 = s.bank1 := rfl
@[simp] theorem State.setMach_high (v : Word) : (s.setMach v).high = s.high := rfl
@[simp] theorem State.setMach_pc (v : Word) : (s.setMach v).pc = s.pc := rfl
@[simp] theorem State.setMach_slot (v : Word) : (s.setMach v).slot = s.slot := rfl
@[simp] theorem State.setMach_sr (v : Word) : (s.setMach v).sr = s.sr := rfl
@[simp] theorem State.setMach_gbr (v : Word) : (s.setMach v).gbr = s.gbr := rfl
@[simp] theorem State.setMach_vbr (v : Word) : (s.setMach v).vbr = s.vbr := rfl
@[simp] theorem State.setMach_ssr (v : Word) : (s.setMach v).ssr = s.ssr := rfl
@[simp] theorem State.setMach_spc (v : Word) : (s.setMach v).spc = s.spc := rfl
@[simp] theorem State.setMach_mach (v : Word) : (s.setMach v).mach = v := rfl
@[simp] theorem State.setMach_macl (v : Word) : (s.setMach v).macl = s.macl := rfl
@[simp] theorem State.setMach_pr (v : Word) : (s.setMach v).pr = s.pr := rfl
@[simp] theorem State.setMach_tra (v : Word) : (s.setMach v).tra = s.tra := rfl
@[simp] theorem State.setMach_expevt (v : Word) : (s.setMach v).expevt = s.expevt := rfl
@[simp] theorem State.setMach_intevt (v : Word) : (s.setMach v).intevt = s.intevt := rfl
@[simp] theorem State.setMach_asleep (v : Word) : (s.setMach v).asleep = s.asleep := rfl
@[simp] theorem State.setMach_resetPin (v : Word) : (s.setMach v).resetPin = s.resetPin := rfl
@[simp] theorem State.setMach_nmi (v : Word) : (s.setMach v).nmi = s.nmi := rfl
@[simp] theorem State.setMach_level (v : Word) : (s.setMach v).level = s.level := rfl
@[simp] theorem State.setMach_endian (v : Word) : (s.setMach v).endian = s.endian := rfl
@[simp] theorem State.setMach_mem (v : Word) : (s.setMach v).mem = s.mem := rfl
@[simp] theorem State.setMach_storedTo (v : Word) : (s.setMach v).storedTo = s.storedTo := rfl
@[simp] theorem State.setMach_shared (v : Word) : (s.setMach v).shared = s.shared := rfl
@[simp] theorem State.setMach_freeCount (v : Word) : (s.setMach v).freeCount = s.freeCount := rfl
@[simp] theorem State.setMach_oracleCount (v : Word) : (s.setMach v).oracleCount = s.oracleCount := rfl

/-! ### State.setMacl -/

@[simp] theorem State.setMacl_bank0 (v : Word) : (s.setMacl v).bank0 = s.bank0 := rfl
@[simp] theorem State.setMacl_bank1 (v : Word) : (s.setMacl v).bank1 = s.bank1 := rfl
@[simp] theorem State.setMacl_high (v : Word) : (s.setMacl v).high = s.high := rfl
@[simp] theorem State.setMacl_pc (v : Word) : (s.setMacl v).pc = s.pc := rfl
@[simp] theorem State.setMacl_slot (v : Word) : (s.setMacl v).slot = s.slot := rfl
@[simp] theorem State.setMacl_sr (v : Word) : (s.setMacl v).sr = s.sr := rfl
@[simp] theorem State.setMacl_gbr (v : Word) : (s.setMacl v).gbr = s.gbr := rfl
@[simp] theorem State.setMacl_vbr (v : Word) : (s.setMacl v).vbr = s.vbr := rfl
@[simp] theorem State.setMacl_ssr (v : Word) : (s.setMacl v).ssr = s.ssr := rfl
@[simp] theorem State.setMacl_spc (v : Word) : (s.setMacl v).spc = s.spc := rfl
@[simp] theorem State.setMacl_mach (v : Word) : (s.setMacl v).mach = s.mach := rfl
@[simp] theorem State.setMacl_macl (v : Word) : (s.setMacl v).macl = v := rfl
@[simp] theorem State.setMacl_pr (v : Word) : (s.setMacl v).pr = s.pr := rfl
@[simp] theorem State.setMacl_tra (v : Word) : (s.setMacl v).tra = s.tra := rfl
@[simp] theorem State.setMacl_expevt (v : Word) : (s.setMacl v).expevt = s.expevt := rfl
@[simp] theorem State.setMacl_intevt (v : Word) : (s.setMacl v).intevt = s.intevt := rfl
@[simp] theorem State.setMacl_asleep (v : Word) : (s.setMacl v).asleep = s.asleep := rfl
@[simp] theorem State.setMacl_resetPin (v : Word) : (s.setMacl v).resetPin = s.resetPin := rfl
@[simp] theorem State.setMacl_nmi (v : Word) : (s.setMacl v).nmi = s.nmi := rfl
@[simp] theorem State.setMacl_level (v : Word) : (s.setMacl v).level = s.level := rfl
@[simp] theorem State.setMacl_endian (v : Word) : (s.setMacl v).endian = s.endian := rfl
@[simp] theorem State.setMacl_mem (v : Word) : (s.setMacl v).mem = s.mem := rfl
@[simp] theorem State.setMacl_storedTo (v : Word) : (s.setMacl v).storedTo = s.storedTo := rfl
@[simp] theorem State.setMacl_shared (v : Word) : (s.setMacl v).shared = s.shared := rfl
@[simp] theorem State.setMacl_freeCount (v : Word) : (s.setMacl v).freeCount = s.freeCount := rfl
@[simp] theorem State.setMacl_oracleCount (v : Word) : (s.setMacl v).oracleCount = s.oracleCount := rfl

/-! ### State.setPr -/

@[simp] theorem State.setPr_bank0 (v : Word) : (s.setPr v).bank0 = s.bank0 := rfl
@[simp] theorem State.setPr_bank1 (v : Word) : (s.setPr v).bank1 = s.bank1 := rfl
@[simp] theorem State.setPr_high (v : Word) : (s.setPr v).high = s.high := rfl
@[simp] theorem State.setPr_pc (v : Word) : (s.setPr v).pc = s.pc := rfl
@[simp] theorem State.setPr_slot (v : Word) : (s.setPr v).slot = s.slot := rfl
@[simp] theorem State.setPr_sr (v : Word) : (s.setPr v).sr = s.sr := rfl
@[simp] theorem State.setPr_gbr (v : Word) : (s.setPr v).gbr = s.gbr := rfl
@[simp] theorem State.setPr_vbr (v : Word) : (s.setPr v).vbr = s.vbr := rfl
@[simp] theorem State.setPr_ssr (v : Word) : (s.setPr v).ssr = s.ssr := rfl
@[simp] theorem State.setPr_spc (v : Word) : (s.setPr v).spc = s.spc := rfl
@[simp] theorem State.setPr_mach (v : Word) : (s.setPr v).mach = s.mach := rfl
@[simp] theorem State.setPr_macl (v : Word) : (s.setPr v).macl = s.macl := rfl
@[simp] theorem State.setPr_pr (v : Word) : (s.setPr v).pr = v := rfl
@[simp] theorem State.setPr_tra (v : Word) : (s.setPr v).tra = s.tra := rfl
@[simp] theorem State.setPr_expevt (v : Word) : (s.setPr v).expevt = s.expevt := rfl
@[simp] theorem State.setPr_intevt (v : Word) : (s.setPr v).intevt = s.intevt := rfl
@[simp] theorem State.setPr_asleep (v : Word) : (s.setPr v).asleep = s.asleep := rfl
@[simp] theorem State.setPr_resetPin (v : Word) : (s.setPr v).resetPin = s.resetPin := rfl
@[simp] theorem State.setPr_nmi (v : Word) : (s.setPr v).nmi = s.nmi := rfl
@[simp] theorem State.setPr_level (v : Word) : (s.setPr v).level = s.level := rfl
@[simp] theorem State.setPr_endian (v : Word) : (s.setPr v).endian = s.endian := rfl
@[simp] theorem State.setPr_mem (v : Word) : (s.setPr v).mem = s.mem := rfl
@[simp] theorem State.setPr_storedTo (v : Word) : (s.setPr v).storedTo = s.storedTo := rfl
@[simp] theorem State.setPr_shared (v : Word) : (s.setPr v).shared = s.shared := rfl
@[simp] theorem State.setPr_freeCount (v : Word) : (s.setPr v).freeCount = s.freeCount := rfl
@[simp] theorem State.setPr_oracleCount (v : Word) : (s.setPr v).oracleCount = s.oracleCount := rfl

/-! ### State.setMac -/

@[simp] theorem State.setMac_bank0 (v : BitVec 64) : (s.setMac v).bank0 = s.bank0 := rfl
@[simp] theorem State.setMac_bank1 (v : BitVec 64) : (s.setMac v).bank1 = s.bank1 := rfl
@[simp] theorem State.setMac_high (v : BitVec 64) : (s.setMac v).high = s.high := rfl
@[simp] theorem State.setMac_pc (v : BitVec 64) : (s.setMac v).pc = s.pc := rfl
@[simp] theorem State.setMac_slot (v : BitVec 64) : (s.setMac v).slot = s.slot := rfl
@[simp] theorem State.setMac_sr (v : BitVec 64) : (s.setMac v).sr = s.sr := rfl
@[simp] theorem State.setMac_gbr (v : BitVec 64) : (s.setMac v).gbr = s.gbr := rfl
@[simp] theorem State.setMac_vbr (v : BitVec 64) : (s.setMac v).vbr = s.vbr := rfl
@[simp] theorem State.setMac_ssr (v : BitVec 64) : (s.setMac v).ssr = s.ssr := rfl
@[simp] theorem State.setMac_spc (v : BitVec 64) : (s.setMac v).spc = s.spc := rfl
@[simp] theorem State.setMac_mach (v : BitVec 64) : (s.setMac v).mach = v.extractLsb' 32 32 := rfl
@[simp] theorem State.setMac_macl (v : BitVec 64) : (s.setMac v).macl = v.extractLsb' 0 32 := rfl
@[simp] theorem State.setMac_pr (v : BitVec 64) : (s.setMac v).pr = s.pr := rfl
@[simp] theorem State.setMac_tra (v : BitVec 64) : (s.setMac v).tra = s.tra := rfl
@[simp] theorem State.setMac_expevt (v : BitVec 64) : (s.setMac v).expevt = s.expevt := rfl
@[simp] theorem State.setMac_intevt (v : BitVec 64) : (s.setMac v).intevt = s.intevt := rfl
@[simp] theorem State.setMac_asleep (v : BitVec 64) : (s.setMac v).asleep = s.asleep := rfl
@[simp] theorem State.setMac_resetPin (v : BitVec 64) : (s.setMac v).resetPin = s.resetPin := rfl
@[simp] theorem State.setMac_nmi (v : BitVec 64) : (s.setMac v).nmi = s.nmi := rfl
@[simp] theorem State.setMac_level (v : BitVec 64) : (s.setMac v).level = s.level := rfl
@[simp] theorem State.setMac_endian (v : BitVec 64) : (s.setMac v).endian = s.endian := rfl
@[simp] theorem State.setMac_mem (v : BitVec 64) : (s.setMac v).mem = s.mem := rfl
@[simp] theorem State.setMac_storedTo (v : BitVec 64) : (s.setMac v).storedTo = s.storedTo := rfl
@[simp] theorem State.setMac_shared (v : BitVec 64) : (s.setMac v).shared = s.shared := rfl
@[simp] theorem State.setMac_freeCount (v : BitVec 64) : (s.setMac v).freeCount = s.freeCount := rfl
@[simp] theorem State.setMac_oracleCount (v : BitVec 64) : (s.setMac v).oracleCount = s.oracleCount := rfl

/-! ### State.setT -/

@[simp] theorem State.setT_bank0 (b : Bool) : (s.setT b).bank0 = s.bank0 := rfl
@[simp] theorem State.setT_bank1 (b : Bool) : (s.setT b).bank1 = s.bank1 := rfl
@[simp] theorem State.setT_high (b : Bool) : (s.setT b).high = s.high := rfl
@[simp] theorem State.setT_pc (b : Bool) : (s.setT b).pc = s.pc := rfl
@[simp] theorem State.setT_slot (b : Bool) : (s.setT b).slot = s.slot := rfl
@[simp] theorem State.setT_sr (b : Bool) : (s.setT b).sr = setBit s.sr 0 b := rfl
@[simp] theorem State.setT_gbr (b : Bool) : (s.setT b).gbr = s.gbr := rfl
@[simp] theorem State.setT_vbr (b : Bool) : (s.setT b).vbr = s.vbr := rfl
@[simp] theorem State.setT_ssr (b : Bool) : (s.setT b).ssr = s.ssr := rfl
@[simp] theorem State.setT_spc (b : Bool) : (s.setT b).spc = s.spc := rfl
@[simp] theorem State.setT_mach (b : Bool) : (s.setT b).mach = s.mach := rfl
@[simp] theorem State.setT_macl (b : Bool) : (s.setT b).macl = s.macl := rfl
@[simp] theorem State.setT_pr (b : Bool) : (s.setT b).pr = s.pr := rfl
@[simp] theorem State.setT_tra (b : Bool) : (s.setT b).tra = s.tra := rfl
@[simp] theorem State.setT_expevt (b : Bool) : (s.setT b).expevt = s.expevt := rfl
@[simp] theorem State.setT_intevt (b : Bool) : (s.setT b).intevt = s.intevt := rfl
@[simp] theorem State.setT_asleep (b : Bool) : (s.setT b).asleep = s.asleep := rfl
@[simp] theorem State.setT_resetPin (b : Bool) : (s.setT b).resetPin = s.resetPin := rfl
@[simp] theorem State.setT_nmi (b : Bool) : (s.setT b).nmi = s.nmi := rfl
@[simp] theorem State.setT_level (b : Bool) : (s.setT b).level = s.level := rfl
@[simp] theorem State.setT_endian (b : Bool) : (s.setT b).endian = s.endian := rfl
@[simp] theorem State.setT_mem (b : Bool) : (s.setT b).mem = s.mem := rfl
@[simp] theorem State.setT_storedTo (b : Bool) : (s.setT b).storedTo = s.storedTo := rfl
@[simp] theorem State.setT_shared (b : Bool) : (s.setT b).shared = s.shared := rfl
@[simp] theorem State.setT_freeCount (b : Bool) : (s.setT b).freeCount = s.freeCount := rfl
@[simp] theorem State.setT_oracleCount (b : Bool) : (s.setT b).oracleCount = s.oracleCount := rfl

/-! ### State.setS -/

@[simp] theorem State.setS_bank0 (b : Bool) : (s.setS b).bank0 = s.bank0 := rfl
@[simp] theorem State.setS_bank1 (b : Bool) : (s.setS b).bank1 = s.bank1 := rfl
@[simp] theorem State.setS_high (b : Bool) : (s.setS b).high = s.high := rfl
@[simp] theorem State.setS_pc (b : Bool) : (s.setS b).pc = s.pc := rfl
@[simp] theorem State.setS_slot (b : Bool) : (s.setS b).slot = s.slot := rfl
@[simp] theorem State.setS_sr (b : Bool) : (s.setS b).sr = setBit s.sr 1 b := rfl
@[simp] theorem State.setS_gbr (b : Bool) : (s.setS b).gbr = s.gbr := rfl
@[simp] theorem State.setS_vbr (b : Bool) : (s.setS b).vbr = s.vbr := rfl
@[simp] theorem State.setS_ssr (b : Bool) : (s.setS b).ssr = s.ssr := rfl
@[simp] theorem State.setS_spc (b : Bool) : (s.setS b).spc = s.spc := rfl
@[simp] theorem State.setS_mach (b : Bool) : (s.setS b).mach = s.mach := rfl
@[simp] theorem State.setS_macl (b : Bool) : (s.setS b).macl = s.macl := rfl
@[simp] theorem State.setS_pr (b : Bool) : (s.setS b).pr = s.pr := rfl
@[simp] theorem State.setS_tra (b : Bool) : (s.setS b).tra = s.tra := rfl
@[simp] theorem State.setS_expevt (b : Bool) : (s.setS b).expevt = s.expevt := rfl
@[simp] theorem State.setS_intevt (b : Bool) : (s.setS b).intevt = s.intevt := rfl
@[simp] theorem State.setS_asleep (b : Bool) : (s.setS b).asleep = s.asleep := rfl
@[simp] theorem State.setS_resetPin (b : Bool) : (s.setS b).resetPin = s.resetPin := rfl
@[simp] theorem State.setS_nmi (b : Bool) : (s.setS b).nmi = s.nmi := rfl
@[simp] theorem State.setS_level (b : Bool) : (s.setS b).level = s.level := rfl
@[simp] theorem State.setS_endian (b : Bool) : (s.setS b).endian = s.endian := rfl
@[simp] theorem State.setS_mem (b : Bool) : (s.setS b).mem = s.mem := rfl
@[simp] theorem State.setS_storedTo (b : Bool) : (s.setS b).storedTo = s.storedTo := rfl
@[simp] theorem State.setS_shared (b : Bool) : (s.setS b).shared = s.shared := rfl
@[simp] theorem State.setS_freeCount (b : Bool) : (s.setS b).freeCount = s.freeCount := rfl
@[simp] theorem State.setS_oracleCount (b : Bool) : (s.setS b).oracleCount = s.oracleCount := rfl

/-! ### State.setQ -/

@[simp] theorem State.setQ_bank0 (b : Bool) : (s.setQ b).bank0 = s.bank0 := rfl
@[simp] theorem State.setQ_bank1 (b : Bool) : (s.setQ b).bank1 = s.bank1 := rfl
@[simp] theorem State.setQ_high (b : Bool) : (s.setQ b).high = s.high := rfl
@[simp] theorem State.setQ_pc (b : Bool) : (s.setQ b).pc = s.pc := rfl
@[simp] theorem State.setQ_slot (b : Bool) : (s.setQ b).slot = s.slot := rfl
@[simp] theorem State.setQ_sr (b : Bool) : (s.setQ b).sr = setBit s.sr 8 b := rfl
@[simp] theorem State.setQ_gbr (b : Bool) : (s.setQ b).gbr = s.gbr := rfl
@[simp] theorem State.setQ_vbr (b : Bool) : (s.setQ b).vbr = s.vbr := rfl
@[simp] theorem State.setQ_ssr (b : Bool) : (s.setQ b).ssr = s.ssr := rfl
@[simp] theorem State.setQ_spc (b : Bool) : (s.setQ b).spc = s.spc := rfl
@[simp] theorem State.setQ_mach (b : Bool) : (s.setQ b).mach = s.mach := rfl
@[simp] theorem State.setQ_macl (b : Bool) : (s.setQ b).macl = s.macl := rfl
@[simp] theorem State.setQ_pr (b : Bool) : (s.setQ b).pr = s.pr := rfl
@[simp] theorem State.setQ_tra (b : Bool) : (s.setQ b).tra = s.tra := rfl
@[simp] theorem State.setQ_expevt (b : Bool) : (s.setQ b).expevt = s.expevt := rfl
@[simp] theorem State.setQ_intevt (b : Bool) : (s.setQ b).intevt = s.intevt := rfl
@[simp] theorem State.setQ_asleep (b : Bool) : (s.setQ b).asleep = s.asleep := rfl
@[simp] theorem State.setQ_resetPin (b : Bool) : (s.setQ b).resetPin = s.resetPin := rfl
@[simp] theorem State.setQ_nmi (b : Bool) : (s.setQ b).nmi = s.nmi := rfl
@[simp] theorem State.setQ_level (b : Bool) : (s.setQ b).level = s.level := rfl
@[simp] theorem State.setQ_endian (b : Bool) : (s.setQ b).endian = s.endian := rfl
@[simp] theorem State.setQ_mem (b : Bool) : (s.setQ b).mem = s.mem := rfl
@[simp] theorem State.setQ_storedTo (b : Bool) : (s.setQ b).storedTo = s.storedTo := rfl
@[simp] theorem State.setQ_shared (b : Bool) : (s.setQ b).shared = s.shared := rfl
@[simp] theorem State.setQ_freeCount (b : Bool) : (s.setQ b).freeCount = s.freeCount := rfl
@[simp] theorem State.setQ_oracleCount (b : Bool) : (s.setQ b).oracleCount = s.oracleCount := rfl

/-! ### State.setM -/

@[simp] theorem State.setM_bank0 (b : Bool) : (s.setM b).bank0 = s.bank0 := rfl
@[simp] theorem State.setM_bank1 (b : Bool) : (s.setM b).bank1 = s.bank1 := rfl
@[simp] theorem State.setM_high (b : Bool) : (s.setM b).high = s.high := rfl
@[simp] theorem State.setM_pc (b : Bool) : (s.setM b).pc = s.pc := rfl
@[simp] theorem State.setM_slot (b : Bool) : (s.setM b).slot = s.slot := rfl
@[simp] theorem State.setM_sr (b : Bool) : (s.setM b).sr = setBit s.sr 9 b := rfl
@[simp] theorem State.setM_gbr (b : Bool) : (s.setM b).gbr = s.gbr := rfl
@[simp] theorem State.setM_vbr (b : Bool) : (s.setM b).vbr = s.vbr := rfl
@[simp] theorem State.setM_ssr (b : Bool) : (s.setM b).ssr = s.ssr := rfl
@[simp] theorem State.setM_spc (b : Bool) : (s.setM b).spc = s.spc := rfl
@[simp] theorem State.setM_mach (b : Bool) : (s.setM b).mach = s.mach := rfl
@[simp] theorem State.setM_macl (b : Bool) : (s.setM b).macl = s.macl := rfl
@[simp] theorem State.setM_pr (b : Bool) : (s.setM b).pr = s.pr := rfl
@[simp] theorem State.setM_tra (b : Bool) : (s.setM b).tra = s.tra := rfl
@[simp] theorem State.setM_expevt (b : Bool) : (s.setM b).expevt = s.expevt := rfl
@[simp] theorem State.setM_intevt (b : Bool) : (s.setM b).intevt = s.intevt := rfl
@[simp] theorem State.setM_asleep (b : Bool) : (s.setM b).asleep = s.asleep := rfl
@[simp] theorem State.setM_resetPin (b : Bool) : (s.setM b).resetPin = s.resetPin := rfl
@[simp] theorem State.setM_nmi (b : Bool) : (s.setM b).nmi = s.nmi := rfl
@[simp] theorem State.setM_level (b : Bool) : (s.setM b).level = s.level := rfl
@[simp] theorem State.setM_endian (b : Bool) : (s.setM b).endian = s.endian := rfl
@[simp] theorem State.setM_mem (b : Bool) : (s.setM b).mem = s.mem := rfl
@[simp] theorem State.setM_storedTo (b : Bool) : (s.setM b).storedTo = s.storedTo := rfl
@[simp] theorem State.setM_shared (b : Bool) : (s.setM b).shared = s.shared := rfl
@[simp] theorem State.setM_freeCount (b : Bool) : (s.setM b).freeCount = s.freeCount := rfl
@[simp] theorem State.setM_oracleCount (b : Bool) : (s.setM b).oracleCount = s.oracleCount := rfl

/-! ### State.setSr -/

@[simp] theorem State.setSr_bank0 (v : Word) : (s.setSr v).bank0 = s.bank0 := rfl
@[simp] theorem State.setSr_bank1 (v : Word) : (s.setSr v).bank1 = s.bank1 := rfl
@[simp] theorem State.setSr_high (v : Word) : (s.setSr v).high = s.high := rfl
@[simp] theorem State.setSr_pc (v : Word) : (s.setSr v).pc = s.pc := rfl
@[simp] theorem State.setSr_slot (v : Word) : (s.setSr v).slot = s.slot := rfl
@[simp] theorem State.setSr_sr (v : Word) : (s.setSr v).sr = v &&& srMask := rfl
@[simp] theorem State.setSr_gbr (v : Word) : (s.setSr v).gbr = s.gbr := rfl
@[simp] theorem State.setSr_vbr (v : Word) : (s.setSr v).vbr = s.vbr := rfl
@[simp] theorem State.setSr_ssr (v : Word) : (s.setSr v).ssr = s.ssr := rfl
@[simp] theorem State.setSr_spc (v : Word) : (s.setSr v).spc = s.spc := rfl
@[simp] theorem State.setSr_mach (v : Word) : (s.setSr v).mach = s.mach := rfl
@[simp] theorem State.setSr_macl (v : Word) : (s.setSr v).macl = s.macl := rfl
@[simp] theorem State.setSr_pr (v : Word) : (s.setSr v).pr = s.pr := rfl
@[simp] theorem State.setSr_tra (v : Word) : (s.setSr v).tra = s.tra := rfl
@[simp] theorem State.setSr_expevt (v : Word) : (s.setSr v).expevt = s.expevt := rfl
@[simp] theorem State.setSr_intevt (v : Word) : (s.setSr v).intevt = s.intevt := rfl
@[simp] theorem State.setSr_asleep (v : Word) : (s.setSr v).asleep = s.asleep := rfl
@[simp] theorem State.setSr_resetPin (v : Word) : (s.setSr v).resetPin = s.resetPin := rfl
@[simp] theorem State.setSr_nmi (v : Word) : (s.setSr v).nmi = s.nmi := rfl
@[simp] theorem State.setSr_level (v : Word) : (s.setSr v).level = s.level := rfl
@[simp] theorem State.setSr_endian (v : Word) : (s.setSr v).endian = s.endian := rfl
@[simp] theorem State.setSr_mem (v : Word) : (s.setSr v).mem = s.mem := rfl
@[simp] theorem State.setSr_storedTo (v : Word) : (s.setSr v).storedTo = s.storedTo := rfl
@[simp] theorem State.setSr_shared (v : Word) : (s.setSr v).shared = s.shared := rfl
@[simp] theorem State.setSr_freeCount (v : Word) : (s.setSr v).freeCount = s.freeCount := rfl
@[simp] theorem State.setSr_oracleCount (v : Word) : (s.setSr v).oracleCount = s.oracleCount := rfl

/-! ### State.setReg -/

@[simp] theorem State.setReg_pc (r : Reg) (v : Word) : (s.setReg r v).pc = s.pc := by unfold State.setReg; split <;> (try split) <;> rfl
@[simp] theorem State.setReg_slot (r : Reg) (v : Word) : (s.setReg r v).slot = s.slot := by unfold State.setReg; split <;> (try split) <;> rfl
@[simp] theorem State.setReg_sr (r : Reg) (v : Word) : (s.setReg r v).sr = s.sr := by unfold State.setReg; split <;> (try split) <;> rfl
@[simp] theorem State.setReg_gbr (r : Reg) (v : Word) : (s.setReg r v).gbr = s.gbr := by unfold State.setReg; split <;> (try split) <;> rfl
@[simp] theorem State.setReg_vbr (r : Reg) (v : Word) : (s.setReg r v).vbr = s.vbr := by unfold State.setReg; split <;> (try split) <;> rfl
@[simp] theorem State.setReg_ssr (r : Reg) (v : Word) : (s.setReg r v).ssr = s.ssr := by unfold State.setReg; split <;> (try split) <;> rfl
@[simp] theorem State.setReg_spc (r : Reg) (v : Word) : (s.setReg r v).spc = s.spc := by unfold State.setReg; split <;> (try split) <;> rfl
@[simp] theorem State.setReg_mach (r : Reg) (v : Word) : (s.setReg r v).mach = s.mach := by unfold State.setReg; split <;> (try split) <;> rfl
@[simp] theorem State.setReg_macl (r : Reg) (v : Word) : (s.setReg r v).macl = s.macl := by unfold State.setReg; split <;> (try split) <;> rfl
@[simp] theorem State.setReg_pr (r : Reg) (v : Word) : (s.setReg r v).pr = s.pr := by unfold State.setReg; split <;> (try split) <;> rfl
@[simp] theorem State.setReg_tra (r : Reg) (v : Word) : (s.setReg r v).tra = s.tra := by unfold State.setReg; split <;> (try split) <;> rfl
@[simp] theorem State.setReg_expevt (r : Reg) (v : Word) : (s.setReg r v).expevt = s.expevt := by unfold State.setReg; split <;> (try split) <;> rfl
@[simp] theorem State.setReg_intevt (r : Reg) (v : Word) : (s.setReg r v).intevt = s.intevt := by unfold State.setReg; split <;> (try split) <;> rfl
@[simp] theorem State.setReg_asleep (r : Reg) (v : Word) : (s.setReg r v).asleep = s.asleep := by unfold State.setReg; split <;> (try split) <;> rfl
@[simp] theorem State.setReg_resetPin (r : Reg) (v : Word) : (s.setReg r v).resetPin = s.resetPin := by unfold State.setReg; split <;> (try split) <;> rfl
@[simp] theorem State.setReg_nmi (r : Reg) (v : Word) : (s.setReg r v).nmi = s.nmi := by unfold State.setReg; split <;> (try split) <;> rfl
@[simp] theorem State.setReg_level (r : Reg) (v : Word) : (s.setReg r v).level = s.level := by unfold State.setReg; split <;> (try split) <;> rfl
@[simp] theorem State.setReg_endian (r : Reg) (v : Word) : (s.setReg r v).endian = s.endian := by unfold State.setReg; split <;> (try split) <;> rfl
@[simp] theorem State.setReg_mem (r : Reg) (v : Word) : (s.setReg r v).mem = s.mem := by unfold State.setReg; split <;> (try split) <;> rfl
@[simp] theorem State.setReg_storedTo (r : Reg) (v : Word) : (s.setReg r v).storedTo = s.storedTo := by unfold State.setReg; split <;> (try split) <;> rfl
@[simp] theorem State.setReg_shared (r : Reg) (v : Word) : (s.setReg r v).shared = s.shared := by unfold State.setReg; split <;> (try split) <;> rfl
@[simp] theorem State.setReg_freeCount (r : Reg) (v : Word) : (s.setReg r v).freeCount = s.freeCount := by unfold State.setReg; split <;> (try split) <;> rfl
@[simp] theorem State.setReg_oracleCount (r : Reg) (v : Word) : (s.setReg r v).oracleCount = s.oracleCount := by unfold State.setReg; split <;> (try split) <;> rfl

/-! ### State.setBackReg -/

@[simp] theorem State.setBackReg_high (b : BankReg) (v : Word) : (s.setBackReg b v).high = s.high := by unfold State.setBackReg; split <;> rfl
@[simp] theorem State.setBackReg_pc (b : BankReg) (v : Word) : (s.setBackReg b v).pc = s.pc := by unfold State.setBackReg; split <;> rfl
@[simp] theorem State.setBackReg_slot (b : BankReg) (v : Word) : (s.setBackReg b v).slot = s.slot := by unfold State.setBackReg; split <;> rfl
@[simp] theorem State.setBackReg_sr (b : BankReg) (v : Word) : (s.setBackReg b v).sr = s.sr := by unfold State.setBackReg; split <;> rfl
@[simp] theorem State.setBackReg_gbr (b : BankReg) (v : Word) : (s.setBackReg b v).gbr = s.gbr := by unfold State.setBackReg; split <;> rfl
@[simp] theorem State.setBackReg_vbr (b : BankReg) (v : Word) : (s.setBackReg b v).vbr = s.vbr := by unfold State.setBackReg; split <;> rfl
@[simp] theorem State.setBackReg_ssr (b : BankReg) (v : Word) : (s.setBackReg b v).ssr = s.ssr := by unfold State.setBackReg; split <;> rfl
@[simp] theorem State.setBackReg_spc (b : BankReg) (v : Word) : (s.setBackReg b v).spc = s.spc := by unfold State.setBackReg; split <;> rfl
@[simp] theorem State.setBackReg_mach (b : BankReg) (v : Word) : (s.setBackReg b v).mach = s.mach := by unfold State.setBackReg; split <;> rfl
@[simp] theorem State.setBackReg_macl (b : BankReg) (v : Word) : (s.setBackReg b v).macl = s.macl := by unfold State.setBackReg; split <;> rfl
@[simp] theorem State.setBackReg_pr (b : BankReg) (v : Word) : (s.setBackReg b v).pr = s.pr := by unfold State.setBackReg; split <;> rfl
@[simp] theorem State.setBackReg_tra (b : BankReg) (v : Word) : (s.setBackReg b v).tra = s.tra := by unfold State.setBackReg; split <;> rfl
@[simp] theorem State.setBackReg_expevt (b : BankReg) (v : Word) : (s.setBackReg b v).expevt = s.expevt := by unfold State.setBackReg; split <;> rfl
@[simp] theorem State.setBackReg_intevt (b : BankReg) (v : Word) : (s.setBackReg b v).intevt = s.intevt := by unfold State.setBackReg; split <;> rfl
@[simp] theorem State.setBackReg_asleep (b : BankReg) (v : Word) : (s.setBackReg b v).asleep = s.asleep := by unfold State.setBackReg; split <;> rfl
@[simp] theorem State.setBackReg_resetPin (b : BankReg) (v : Word) : (s.setBackReg b v).resetPin = s.resetPin := by unfold State.setBackReg; split <;> rfl
@[simp] theorem State.setBackReg_nmi (b : BankReg) (v : Word) : (s.setBackReg b v).nmi = s.nmi := by unfold State.setBackReg; split <;> rfl
@[simp] theorem State.setBackReg_level (b : BankReg) (v : Word) : (s.setBackReg b v).level = s.level := by unfold State.setBackReg; split <;> rfl
@[simp] theorem State.setBackReg_endian (b : BankReg) (v : Word) : (s.setBackReg b v).endian = s.endian := by unfold State.setBackReg; split <;> rfl
@[simp] theorem State.setBackReg_mem (b : BankReg) (v : Word) : (s.setBackReg b v).mem = s.mem := by unfold State.setBackReg; split <;> rfl
@[simp] theorem State.setBackReg_storedTo (b : BankReg) (v : Word) : (s.setBackReg b v).storedTo = s.storedTo := by unfold State.setBackReg; split <;> rfl
@[simp] theorem State.setBackReg_shared (b : BankReg) (v : Word) : (s.setBackReg b v).shared = s.shared := by unfold State.setBackReg; split <;> rfl
@[simp] theorem State.setBackReg_freeCount (b : BankReg) (v : Word) : (s.setBackReg b v).freeCount = s.freeCount := by unfold State.setBackReg; split <;> rfl
@[simp] theorem State.setBackReg_oracleCount (b : BankReg) (v : Word) : (s.setBackReg b v).oracleCount = s.oracleCount := by unfold State.setBackReg; split <;> rfl

/-! ### State.setEventReg -/

@[simp] theorem State.setEventReg_bank0 (r : EventReg) (v : Word) : (s.setEventReg r v).bank0 = s.bank0 := by cases r <;> rfl
@[simp] theorem State.setEventReg_bank1 (r : EventReg) (v : Word) : (s.setEventReg r v).bank1 = s.bank1 := by cases r <;> rfl
@[simp] theorem State.setEventReg_high (r : EventReg) (v : Word) : (s.setEventReg r v).high = s.high := by cases r <;> rfl
@[simp] theorem State.setEventReg_pc (r : EventReg) (v : Word) : (s.setEventReg r v).pc = s.pc := by cases r <;> rfl
@[simp] theorem State.setEventReg_slot (r : EventReg) (v : Word) : (s.setEventReg r v).slot = s.slot := by cases r <;> rfl
@[simp] theorem State.setEventReg_sr (r : EventReg) (v : Word) : (s.setEventReg r v).sr = s.sr := by cases r <;> rfl
@[simp] theorem State.setEventReg_gbr (r : EventReg) (v : Word) : (s.setEventReg r v).gbr = s.gbr := by cases r <;> rfl
@[simp] theorem State.setEventReg_vbr (r : EventReg) (v : Word) : (s.setEventReg r v).vbr = s.vbr := by cases r <;> rfl
@[simp] theorem State.setEventReg_ssr (r : EventReg) (v : Word) : (s.setEventReg r v).ssr = s.ssr := by cases r <;> rfl
@[simp] theorem State.setEventReg_spc (r : EventReg) (v : Word) : (s.setEventReg r v).spc = s.spc := by cases r <;> rfl
@[simp] theorem State.setEventReg_mach (r : EventReg) (v : Word) : (s.setEventReg r v).mach = s.mach := by cases r <;> rfl
@[simp] theorem State.setEventReg_macl (r : EventReg) (v : Word) : (s.setEventReg r v).macl = s.macl := by cases r <;> rfl
@[simp] theorem State.setEventReg_pr (r : EventReg) (v : Word) : (s.setEventReg r v).pr = s.pr := by cases r <;> rfl
@[simp] theorem State.setEventReg_tra (r : EventReg) (v : Word) : (s.setEventReg r v).tra = if r = .tra then v &&& EventReg.tra.mask else s.tra := by cases r <;> rfl
@[simp] theorem State.setEventReg_expevt (r : EventReg) (v : Word) : (s.setEventReg r v).expevt = if r = .expevt then v &&& EventReg.expevt.mask else s.expevt := by cases r <;> rfl
@[simp] theorem State.setEventReg_intevt (r : EventReg) (v : Word) : (s.setEventReg r v).intevt = if r = .intevt then v &&& EventReg.intevt.mask else s.intevt := by cases r <;> rfl
@[simp] theorem State.setEventReg_asleep (r : EventReg) (v : Word) : (s.setEventReg r v).asleep = s.asleep := by cases r <;> rfl
@[simp] theorem State.setEventReg_resetPin (r : EventReg) (v : Word) : (s.setEventReg r v).resetPin = s.resetPin := by cases r <;> rfl
@[simp] theorem State.setEventReg_nmi (r : EventReg) (v : Word) : (s.setEventReg r v).nmi = s.nmi := by cases r <;> rfl
@[simp] theorem State.setEventReg_level (r : EventReg) (v : Word) : (s.setEventReg r v).level = s.level := by cases r <;> rfl
@[simp] theorem State.setEventReg_endian (r : EventReg) (v : Word) : (s.setEventReg r v).endian = s.endian := by cases r <;> rfl
@[simp] theorem State.setEventReg_mem (r : EventReg) (v : Word) : (s.setEventReg r v).mem = s.mem := by cases r <;> rfl
@[simp] theorem State.setEventReg_storedTo (r : EventReg) (v : Word) : (s.setEventReg r v).storedTo = s.storedTo := by cases r <;> rfl
@[simp] theorem State.setEventReg_shared (r : EventReg) (v : Word) : (s.setEventReg r v).shared = s.shared := by cases r <;> rfl
@[simp] theorem State.setEventReg_freeCount (r : EventReg) (v : Word) : (s.setEventReg r v).freeCount = s.freeCount := by cases r <;> rfl
@[simp] theorem State.setEventReg_oracleCount (r : EventReg) (v : Word) : (s.setEventReg r v).oracleCount = s.oracleCount := by cases r <;> rfl

/-! ### State.storeBytes -/

@[simp] theorem State.storeBytes_bank0 (a : Nat) (l : List Byte) : (s.storeBytes a l).bank0 = s.bank0 := rfl
@[simp] theorem State.storeBytes_bank1 (a : Nat) (l : List Byte) : (s.storeBytes a l).bank1 = s.bank1 := rfl
@[simp] theorem State.storeBytes_high (a : Nat) (l : List Byte) : (s.storeBytes a l).high = s.high := rfl
@[simp] theorem State.storeBytes_pc (a : Nat) (l : List Byte) : (s.storeBytes a l).pc = s.pc := rfl
@[simp] theorem State.storeBytes_slot (a : Nat) (l : List Byte) : (s.storeBytes a l).slot = s.slot := rfl
@[simp] theorem State.storeBytes_sr (a : Nat) (l : List Byte) : (s.storeBytes a l).sr = s.sr := rfl
@[simp] theorem State.storeBytes_gbr (a : Nat) (l : List Byte) : (s.storeBytes a l).gbr = s.gbr := rfl
@[simp] theorem State.storeBytes_vbr (a : Nat) (l : List Byte) : (s.storeBytes a l).vbr = s.vbr := rfl
@[simp] theorem State.storeBytes_ssr (a : Nat) (l : List Byte) : (s.storeBytes a l).ssr = s.ssr := rfl
@[simp] theorem State.storeBytes_spc (a : Nat) (l : List Byte) : (s.storeBytes a l).spc = s.spc := rfl
@[simp] theorem State.storeBytes_mach (a : Nat) (l : List Byte) : (s.storeBytes a l).mach = s.mach := rfl
@[simp] theorem State.storeBytes_macl (a : Nat) (l : List Byte) : (s.storeBytes a l).macl = s.macl := rfl
@[simp] theorem State.storeBytes_pr (a : Nat) (l : List Byte) : (s.storeBytes a l).pr = s.pr := rfl
@[simp] theorem State.storeBytes_tra (a : Nat) (l : List Byte) : (s.storeBytes a l).tra = s.tra := rfl
@[simp] theorem State.storeBytes_expevt (a : Nat) (l : List Byte) : (s.storeBytes a l).expevt = s.expevt := rfl
@[simp] theorem State.storeBytes_intevt (a : Nat) (l : List Byte) : (s.storeBytes a l).intevt = s.intevt := rfl
@[simp] theorem State.storeBytes_asleep (a : Nat) (l : List Byte) : (s.storeBytes a l).asleep = s.asleep := rfl
@[simp] theorem State.storeBytes_resetPin (a : Nat) (l : List Byte) : (s.storeBytes a l).resetPin = s.resetPin := rfl
@[simp] theorem State.storeBytes_nmi (a : Nat) (l : List Byte) : (s.storeBytes a l).nmi = s.nmi := rfl
@[simp] theorem State.storeBytes_level (a : Nat) (l : List Byte) : (s.storeBytes a l).level = s.level := rfl
@[simp] theorem State.storeBytes_endian (a : Nat) (l : List Byte) : (s.storeBytes a l).endian = s.endian := rfl
@[simp] theorem State.storeBytes_mem (a : Nat) (l : List Byte) : (s.storeBytes a l).mem = s.mem.writeBytes a l := rfl
@[simp] theorem State.storeBytes_storedTo (a : Nat) (l : List Byte) : (s.storeBytes a l).storedTo = addAddresses s.storedTo a l.length := rfl
@[simp] theorem State.storeBytes_shared (a : Nat) (l : List Byte) : (s.storeBytes a l).shared = s.shared := rfl
@[simp] theorem State.storeBytes_freeCount (a : Nat) (l : List Byte) : (s.storeBytes a l).freeCount = s.freeCount := rfl
@[simp] theorem State.storeBytes_oracleCount (a : Nat) (l : List Byte) : (s.storeBytes a l).oracleCount = s.oracleCount := rfl

/-! ### State.nextAnswers -/

@[simp] theorem State.nextAnswers_bank0 : (s.nextAnswers).bank0 = s.bank0 := rfl
@[simp] theorem State.nextAnswers_bank1 : (s.nextAnswers).bank1 = s.bank1 := rfl
@[simp] theorem State.nextAnswers_high : (s.nextAnswers).high = s.high := rfl
@[simp] theorem State.nextAnswers_pc : (s.nextAnswers).pc = s.pc := rfl
@[simp] theorem State.nextAnswers_slot : (s.nextAnswers).slot = s.slot := rfl
@[simp] theorem State.nextAnswers_sr : (s.nextAnswers).sr = s.sr := rfl
@[simp] theorem State.nextAnswers_gbr : (s.nextAnswers).gbr = s.gbr := rfl
@[simp] theorem State.nextAnswers_vbr : (s.nextAnswers).vbr = s.vbr := rfl
@[simp] theorem State.nextAnswers_ssr : (s.nextAnswers).ssr = s.ssr := rfl
@[simp] theorem State.nextAnswers_spc : (s.nextAnswers).spc = s.spc := rfl
@[simp] theorem State.nextAnswers_mach : (s.nextAnswers).mach = s.mach := rfl
@[simp] theorem State.nextAnswers_macl : (s.nextAnswers).macl = s.macl := rfl
@[simp] theorem State.nextAnswers_pr : (s.nextAnswers).pr = s.pr := rfl
@[simp] theorem State.nextAnswers_tra : (s.nextAnswers).tra = s.tra := rfl
@[simp] theorem State.nextAnswers_expevt : (s.nextAnswers).expevt = s.expevt := rfl
@[simp] theorem State.nextAnswers_intevt : (s.nextAnswers).intevt = s.intevt := rfl
@[simp] theorem State.nextAnswers_asleep : (s.nextAnswers).asleep = s.asleep := rfl
@[simp] theorem State.nextAnswers_resetPin : (s.nextAnswers).resetPin = s.resetPin := rfl
@[simp] theorem State.nextAnswers_nmi : (s.nextAnswers).nmi = s.nmi := rfl
@[simp] theorem State.nextAnswers_level : (s.nextAnswers).level = s.level := rfl
@[simp] theorem State.nextAnswers_endian : (s.nextAnswers).endian = s.endian := rfl
@[simp] theorem State.nextAnswers_mem : (s.nextAnswers).mem = s.mem := rfl
@[simp] theorem State.nextAnswers_storedTo : (s.nextAnswers).storedTo = s.storedTo := rfl
@[simp] theorem State.nextAnswers_shared : (s.nextAnswers).shared = s.shared := rfl
@[simp] theorem State.nextAnswers_freeCount : (s.nextAnswers).freeCount = s.freeCount := rfl
@[simp] theorem State.nextAnswers_oracleCount : (s.nextAnswers).oracleCount = s.oracleCount + 1 := rfl

/-! ### State.advance -/

@[simp] theorem State.advance_bank0 : (s.advance).bank0 = s.bank0 := by unfold State.advance; split <;> simp_all
@[simp] theorem State.advance_bank1 : (s.advance).bank1 = s.bank1 := by unfold State.advance; split <;> simp_all
@[simp] theorem State.advance_high : (s.advance).high = s.high := by unfold State.advance; split <;> simp_all
@[simp] theorem State.advance_pc : (s.advance).pc = s.slot.getD (s.pc + 2) := by unfold State.advance; split <;> simp_all
@[simp] theorem State.advance_slot : (s.advance).slot = none := by unfold State.advance; split <;> simp_all
@[simp] theorem State.advance_sr : (s.advance).sr = s.sr := by unfold State.advance; split <;> simp_all
@[simp] theorem State.advance_gbr : (s.advance).gbr = s.gbr := by unfold State.advance; split <;> simp_all
@[simp] theorem State.advance_vbr : (s.advance).vbr = s.vbr := by unfold State.advance; split <;> simp_all
@[simp] theorem State.advance_ssr : (s.advance).ssr = s.ssr := by unfold State.advance; split <;> simp_all
@[simp] theorem State.advance_spc : (s.advance).spc = s.spc := by unfold State.advance; split <;> simp_all
@[simp] theorem State.advance_mach : (s.advance).mach = s.mach := by unfold State.advance; split <;> simp_all
@[simp] theorem State.advance_macl : (s.advance).macl = s.macl := by unfold State.advance; split <;> simp_all
@[simp] theorem State.advance_pr : (s.advance).pr = s.pr := by unfold State.advance; split <;> simp_all
@[simp] theorem State.advance_tra : (s.advance).tra = s.tra := by unfold State.advance; split <;> simp_all
@[simp] theorem State.advance_expevt : (s.advance).expevt = s.expevt := by unfold State.advance; split <;> simp_all
@[simp] theorem State.advance_intevt : (s.advance).intevt = s.intevt := by unfold State.advance; split <;> simp_all
@[simp] theorem State.advance_asleep : (s.advance).asleep = s.asleep := by unfold State.advance; split <;> simp_all
@[simp] theorem State.advance_resetPin : (s.advance).resetPin = s.resetPin := by unfold State.advance; split <;> simp_all
@[simp] theorem State.advance_nmi : (s.advance).nmi = s.nmi := by unfold State.advance; split <;> simp_all
@[simp] theorem State.advance_level : (s.advance).level = s.level := by unfold State.advance; split <;> simp_all
@[simp] theorem State.advance_endian : (s.advance).endian = s.endian := by unfold State.advance; split <;> simp_all
@[simp] theorem State.advance_mem : (s.advance).mem = s.mem := by unfold State.advance; split <;> simp_all
@[simp] theorem State.advance_storedTo : (s.advance).storedTo = s.storedTo := by unfold State.advance; split <;> simp_all
@[simp] theorem State.advance_shared : (s.advance).shared = s.shared := by unfold State.advance; split <;> simp_all
@[simp] theorem State.advance_freeCount : (s.advance).freeCount = s.freeCount := by unfold State.advance; split <;> simp_all
@[simp] theorem State.advance_oracleCount : (s.advance).oracleCount = s.oracleCount + 1 := by unfold State.advance; split <;> simp_all

/-! ### State.enter -/

@[simp] theorem State.enter_bank0 (v o : Word) : (s.enter v o).bank0 = s.bank0 := rfl
@[simp] theorem State.enter_bank1 (v o : Word) : (s.enter v o).bank1 = s.bank1 := rfl
@[simp] theorem State.enter_high (v o : Word) : (s.enter v o).high = s.high := rfl
@[simp] theorem State.enter_pc (v o : Word) : (s.enter v o).pc = s.vbr + o := rfl
@[simp] theorem State.enter_slot (v o : Word) : (s.enter v o).slot = none := rfl
@[simp] theorem State.enter_sr (v o : Word) : (s.enter v o).sr = s.srWord ||| srEntryBits := rfl
@[simp] theorem State.enter_gbr (v o : Word) : (s.enter v o).gbr = s.gbr := rfl
@[simp] theorem State.enter_vbr (v o : Word) : (s.enter v o).vbr = s.vbr := rfl
@[simp] theorem State.enter_ssr (v o : Word) : (s.enter v o).ssr = s.srWord := rfl
@[simp] theorem State.enter_spc (v o : Word) : (s.enter v o).spc = v := rfl
@[simp] theorem State.enter_mach (v o : Word) : (s.enter v o).mach = s.mach := rfl
@[simp] theorem State.enter_macl (v o : Word) : (s.enter v o).macl = s.macl := rfl
@[simp] theorem State.enter_pr (v o : Word) : (s.enter v o).pr = s.pr := rfl
@[simp] theorem State.enter_tra (v o : Word) : (s.enter v o).tra = s.tra := rfl
@[simp] theorem State.enter_expevt (v o : Word) : (s.enter v o).expevt = s.expevt := rfl
@[simp] theorem State.enter_intevt (v o : Word) : (s.enter v o).intevt = s.intevt := rfl
@[simp] theorem State.enter_asleep (v o : Word) : (s.enter v o).asleep = false := rfl
@[simp] theorem State.enter_resetPin (v o : Word) : (s.enter v o).resetPin = s.resetPin := rfl
@[simp] theorem State.enter_nmi (v o : Word) : (s.enter v o).nmi = s.nmi := rfl
@[simp] theorem State.enter_level (v o : Word) : (s.enter v o).level = s.level := rfl
@[simp] theorem State.enter_endian (v o : Word) : (s.enter v o).endian = s.endian := rfl
@[simp] theorem State.enter_mem (v o : Word) : (s.enter v o).mem = s.mem := rfl
@[simp] theorem State.enter_storedTo (v o : Word) : (s.enter v o).storedTo = s.storedTo := rfl
@[simp] theorem State.enter_shared (v o : Word) : (s.enter v o).shared = s.shared := rfl
@[simp] theorem State.enter_freeCount (v o : Word) : (s.enter v o).freeCount = s.freeCount := rfl
@[simp] theorem State.enter_oracleCount (v o : Word) : (s.enter v o).oracleCount = s.oracleCount := rfl

/-! ### State.recordExc -/

@[simp] theorem State.recordExc_bank0 (e : Exc) : (s.recordExc e).bank0 = s.bank0 := by cases e <;> rfl
@[simp] theorem State.recordExc_bank1 (e : Exc) : (s.recordExc e).bank1 = s.bank1 := by cases e <;> rfl
@[simp] theorem State.recordExc_high (e : Exc) : (s.recordExc e).high = s.high := by cases e <;> rfl
@[simp] theorem State.recordExc_pc (e : Exc) : (s.recordExc e).pc = s.pc := by cases e <;> rfl
@[simp] theorem State.recordExc_slot (e : Exc) : (s.recordExc e).slot = s.slot := by cases e <;> rfl
@[simp] theorem State.recordExc_sr (e : Exc) : (s.recordExc e).sr = s.sr := by cases e <;> rfl
@[simp] theorem State.recordExc_gbr (e : Exc) : (s.recordExc e).gbr = s.gbr := by cases e <;> rfl
@[simp] theorem State.recordExc_vbr (e : Exc) : (s.recordExc e).vbr = s.vbr := by cases e <;> rfl
@[simp] theorem State.recordExc_ssr (e : Exc) : (s.recordExc e).ssr = s.ssr := by cases e <;> rfl
@[simp] theorem State.recordExc_spc (e : Exc) : (s.recordExc e).spc = s.spc := by cases e <;> rfl
@[simp] theorem State.recordExc_mach (e : Exc) : (s.recordExc e).mach = s.mach := by cases e <;> rfl
@[simp] theorem State.recordExc_macl (e : Exc) : (s.recordExc e).macl = s.macl := by cases e <;> rfl
@[simp] theorem State.recordExc_pr (e : Exc) : (s.recordExc e).pr = s.pr := by cases e <;> rfl
@[simp] theorem State.recordExc_expevt (e : Exc) : (s.recordExc e).expevt = e.code := by cases e <;> rfl
@[simp] theorem State.recordExc_intevt (e : Exc) : (s.recordExc e).intevt = s.intevt := by cases e <;> rfl
@[simp] theorem State.recordExc_asleep (e : Exc) : (s.recordExc e).asleep = s.asleep := by cases e <;> rfl
@[simp] theorem State.recordExc_resetPin (e : Exc) : (s.recordExc e).resetPin = s.resetPin := by cases e <;> rfl
@[simp] theorem State.recordExc_nmi (e : Exc) : (s.recordExc e).nmi = s.nmi := by cases e <;> rfl
@[simp] theorem State.recordExc_level (e : Exc) : (s.recordExc e).level = s.level := by cases e <;> rfl
@[simp] theorem State.recordExc_endian (e : Exc) : (s.recordExc e).endian = s.endian := by cases e <;> rfl
@[simp] theorem State.recordExc_mem (e : Exc) : (s.recordExc e).mem = s.mem := by cases e <;> rfl
@[simp] theorem State.recordExc_storedTo (e : Exc) : (s.recordExc e).storedTo = s.storedTo := by cases e <;> rfl
@[simp] theorem State.recordExc_shared (e : Exc) : (s.recordExc e).shared = s.shared := by cases e <;> rfl
@[simp] theorem State.recordExc_freeCount (e : Exc) : (s.recordExc e).freeCount = s.freeCount := by cases e <;> rfl
@[simp] theorem State.recordExc_oracleCount (e : Exc) : (s.recordExc e).oracleCount = s.oracleCount := by cases e <;> rfl

/-! ### State.enterExc -/

@[simp] theorem State.enterExc_bank0 (e : Exc) : (s.enterExc e).bank0 = s.bank0 := by cases e <;> rfl
@[simp] theorem State.enterExc_bank1 (e : Exc) : (s.enterExc e).bank1 = s.bank1 := by cases e <;> rfl
@[simp] theorem State.enterExc_high (e : Exc) : (s.enterExc e).high = s.high := by cases e <;> rfl
@[simp] theorem State.enterExc_pc (e : Exc) : (s.enterExc e).pc = s.vbr + 0x100 := by cases e <;> rfl
@[simp] theorem State.enterExc_slot (e : Exc) : (s.enterExc e).slot = none := by cases e <;> rfl
@[simp] theorem State.enterExc_sr (e : Exc) : (s.enterExc e).sr = s.srWord ||| srEntryBits := by cases e <;> rfl
@[simp] theorem State.enterExc_gbr (e : Exc) : (s.enterExc e).gbr = s.gbr := by cases e <;> rfl
@[simp] theorem State.enterExc_vbr (e : Exc) : (s.enterExc e).vbr = s.vbr := by cases e <;> rfl
@[simp] theorem State.enterExc_ssr (e : Exc) : (s.enterExc e).ssr = s.srWord := by cases e <;> rfl
@[simp] theorem State.enterExc_spc (e : Exc) : (s.enterExc e).spc = s.savedPc e := by cases e <;> rfl
@[simp] theorem State.enterExc_mach (e : Exc) : (s.enterExc e).mach = s.mach := by cases e <;> rfl
@[simp] theorem State.enterExc_macl (e : Exc) : (s.enterExc e).macl = s.macl := by cases e <;> rfl
@[simp] theorem State.enterExc_pr (e : Exc) : (s.enterExc e).pr = s.pr := by cases e <;> rfl
@[simp] theorem State.enterExc_expevt (e : Exc) : (s.enterExc e).expevt = e.code := by cases e <;> rfl
@[simp] theorem State.enterExc_intevt (e : Exc) : (s.enterExc e).intevt = s.intevt := by cases e <;> rfl
@[simp] theorem State.enterExc_asleep (e : Exc) : (s.enterExc e).asleep = false := by cases e <;> rfl
@[simp] theorem State.enterExc_resetPin (e : Exc) : (s.enterExc e).resetPin = s.resetPin := by cases e <;> rfl
@[simp] theorem State.enterExc_nmi (e : Exc) : (s.enterExc e).nmi = s.nmi := by cases e <;> rfl
@[simp] theorem State.enterExc_level (e : Exc) : (s.enterExc e).level = s.level := by cases e <;> rfl
@[simp] theorem State.enterExc_endian (e : Exc) : (s.enterExc e).endian = s.endian := by cases e <;> rfl
@[simp] theorem State.enterExc_mem (e : Exc) : (s.enterExc e).mem = s.mem := by cases e <;> rfl
@[simp] theorem State.enterExc_storedTo (e : Exc) : (s.enterExc e).storedTo = s.storedTo := by cases e <;> rfl
@[simp] theorem State.enterExc_shared (e : Exc) : (s.enterExc e).shared = s.shared := by cases e <;> rfl
@[simp] theorem State.enterExc_freeCount (e : Exc) : (s.enterExc e).freeCount = s.freeCount := by cases e <;> rfl
@[simp] theorem State.enterExc_oracleCount (e : Exc) : (s.enterExc e).oracleCount = s.oracleCount := by cases e <;> rfl

/-! ### State.enterInterrupt -/

@[simp] theorem State.enterInterrupt_bank0 (c : Word) : (s.enterInterrupt c).bank0 = s.bank0 := by simp [State.enterInterrupt]
@[simp] theorem State.enterInterrupt_bank1 (c : Word) : (s.enterInterrupt c).bank1 = s.bank1 := by simp [State.enterInterrupt]
@[simp] theorem State.enterInterrupt_high (c : Word) : (s.enterInterrupt c).high = s.high := by simp [State.enterInterrupt]
@[simp] theorem State.enterInterrupt_pc (c : Word) : (s.enterInterrupt c).pc = s.vbr + 0x600 := by simp [State.enterInterrupt]
@[simp] theorem State.enterInterrupt_slot (c : Word) : (s.enterInterrupt c).slot = none := by simp [State.enterInterrupt]
@[simp] theorem State.enterInterrupt_sr (c : Word) : (s.enterInterrupt c).sr = s.srWord ||| srEntryBits := by simp [State.enterInterrupt, State.srWord]
@[simp] theorem State.enterInterrupt_gbr (c : Word) : (s.enterInterrupt c).gbr = s.gbr := by simp [State.enterInterrupt]
@[simp] theorem State.enterInterrupt_vbr (c : Word) : (s.enterInterrupt c).vbr = s.vbr := by simp [State.enterInterrupt]
@[simp] theorem State.enterInterrupt_ssr (c : Word) : (s.enterInterrupt c).ssr = s.srWord := by simp [State.enterInterrupt, State.srWord]
@[simp] theorem State.enterInterrupt_spc (c : Word) : (s.enterInterrupt c).spc = s.pc := by simp [State.enterInterrupt]
@[simp] theorem State.enterInterrupt_mach (c : Word) : (s.enterInterrupt c).mach = s.mach := by simp [State.enterInterrupt]
@[simp] theorem State.enterInterrupt_macl (c : Word) : (s.enterInterrupt c).macl = s.macl := by simp [State.enterInterrupt]
@[simp] theorem State.enterInterrupt_pr (c : Word) : (s.enterInterrupt c).pr = s.pr := by simp [State.enterInterrupt]
@[simp] theorem State.enterInterrupt_tra (c : Word) : (s.enterInterrupt c).tra = s.tra := by simp [State.enterInterrupt]
@[simp] theorem State.enterInterrupt_expevt (c : Word) : (s.enterInterrupt c).expevt = s.expevt := by simp [State.enterInterrupt]
@[simp] theorem State.enterInterrupt_intevt (c : Word) : (s.enterInterrupt c).intevt = c := by simp [State.enterInterrupt]
@[simp] theorem State.enterInterrupt_asleep (c : Word) : (s.enterInterrupt c).asleep = false := by simp [State.enterInterrupt]
@[simp] theorem State.enterInterrupt_resetPin (c : Word) : (s.enterInterrupt c).resetPin = s.resetPin := by simp [State.enterInterrupt]
@[simp] theorem State.enterInterrupt_nmi (c : Word) : (s.enterInterrupt c).nmi = s.nmi := by simp [State.enterInterrupt]
@[simp] theorem State.enterInterrupt_level (c : Word) : (s.enterInterrupt c).level = s.level := by simp [State.enterInterrupt]
@[simp] theorem State.enterInterrupt_endian (c : Word) : (s.enterInterrupt c).endian = s.endian := by simp [State.enterInterrupt]
@[simp] theorem State.enterInterrupt_mem (c : Word) : (s.enterInterrupt c).mem = s.mem := by simp [State.enterInterrupt]
@[simp] theorem State.enterInterrupt_storedTo (c : Word) : (s.enterInterrupt c).storedTo = s.storedTo := by simp [State.enterInterrupt]
@[simp] theorem State.enterInterrupt_shared (c : Word) : (s.enterInterrupt c).shared = s.shared := by simp [State.enterInterrupt]
@[simp] theorem State.enterInterrupt_freeCount (c : Word) : (s.enterInterrupt c).freeCount = s.freeCount := by simp [State.enterInterrupt]
@[simp] theorem State.enterInterrupt_oracleCount (c : Word) : (s.enterInterrupt c).oracleCount = s.oracleCount := by simp [State.enterInterrupt]

/-! ### State.resetWith -/

@[simp] theorem State.resetWith_bank0 (c : Word) : (s.resetWith c).bank0 = freeRegisters s.freeCount := rfl
@[simp] theorem State.resetWith_bank1 (c : Word) : (s.resetWith c).bank1 = freeRegisters (s.freeCount + 8) := rfl
@[simp] theorem State.resetWith_high (c : Word) : (s.resetWith c).high = freeRegisters (s.freeCount + 16) := rfl
@[simp] theorem State.resetWith_pc (c : Word) : (s.resetWith c).pc = 0xA0000000 := rfl
@[simp] theorem State.resetWith_slot (c : Word) : (s.resetWith c).slot = none := rfl
@[simp] theorem State.resetWith_sr (c : Word) : (s.resetWith c).sr = 0x700000F0 ||| (Config.unspecified (s.freeCount + 30) &&& 0x00000303) := rfl
@[simp] theorem State.resetWith_gbr (c : Word) : (s.resetWith c).gbr = Config.unspecified (s.freeCount + 24) := rfl
@[simp] theorem State.resetWith_vbr (c : Word) : (s.resetWith c).vbr = 0 := rfl
@[simp] theorem State.resetWith_ssr (c : Word) : (s.resetWith c).ssr = s.ssr := rfl
@[simp] theorem State.resetWith_spc (c : Word) : (s.resetWith c).spc = s.spc := rfl
@[simp] theorem State.resetWith_mach (c : Word) : (s.resetWith c).mach = Config.unspecified (s.freeCount + 25) := rfl
@[simp] theorem State.resetWith_macl (c : Word) : (s.resetWith c).macl = Config.unspecified (s.freeCount + 26) := rfl
@[simp] theorem State.resetWith_pr (c : Word) : (s.resetWith c).pr = Config.unspecified (s.freeCount + 27) := rfl
@[simp] theorem State.resetWith_tra (c : Word) : (s.resetWith c).tra = Config.unspecified (s.freeCount + 28) &&& EventReg.tra.mask := rfl
@[simp] theorem State.resetWith_expevt (c : Word) : (s.resetWith c).expevt = c := rfl
@[simp] theorem State.resetWith_intevt (c : Word) : (s.resetWith c).intevt = Config.unspecified (s.freeCount + 29) &&& EventReg.intevt.mask := rfl
@[simp] theorem State.resetWith_asleep (c : Word) : (s.resetWith c).asleep = false := rfl
@[simp] theorem State.resetWith_resetPin (c : Word) : (s.resetWith c).resetPin = s.resetPin := rfl
@[simp] theorem State.resetWith_nmi (c : Word) : (s.resetWith c).nmi = s.nmi := rfl
@[simp] theorem State.resetWith_level (c : Word) : (s.resetWith c).level = s.level := rfl
@[simp] theorem State.resetWith_endian (c : Word) : (s.resetWith c).endian = s.endian := rfl
@[simp] theorem State.resetWith_mem (c : Word) : (s.resetWith c).mem = s.mem := rfl
@[simp] theorem State.resetWith_storedTo (c : Word) : (s.resetWith c).storedTo = s.storedTo := rfl
@[simp] theorem State.resetWith_shared (c : Word) : (s.resetWith c).shared = s.shared := rfl
@[simp] theorem State.resetWith_freeCount (c : Word) : (s.resetWith c).freeCount = s.freeCount + 31 := rfl
@[simp] theorem State.resetWith_oracleCount (c : Word) : (s.resetWith c).oracleCount = s.oracleCount := rfl

/-! ### State.takeReset -/

@[simp] theorem State.takeReset_bank0 (k : ResetKind) : (s.takeReset k).bank0 = freeRegisters s.freeCount := rfl
@[simp] theorem State.takeReset_bank1 (k : ResetKind) : (s.takeReset k).bank1 = freeRegisters (s.freeCount + 8) := rfl
@[simp] theorem State.takeReset_high (k : ResetKind) : (s.takeReset k).high = freeRegisters (s.freeCount + 16) := rfl
@[simp] theorem State.takeReset_pc (k : ResetKind) : (s.takeReset k).pc = 0xA0000000 := rfl
@[simp] theorem State.takeReset_slot (k : ResetKind) : (s.takeReset k).slot = none := rfl
@[simp] theorem State.takeReset_sr (k : ResetKind) : (s.takeReset k).sr = 0x700000F0 ||| (Config.unspecified (s.freeCount + 30) &&& 0x00000303) := rfl
@[simp] theorem State.takeReset_gbr (k : ResetKind) : (s.takeReset k).gbr = Config.unspecified (s.freeCount + 24) := rfl
@[simp] theorem State.takeReset_vbr (k : ResetKind) : (s.takeReset k).vbr = 0 := rfl
@[simp] theorem State.takeReset_ssr (k : ResetKind) : (s.takeReset k).ssr = s.ssr := rfl
@[simp] theorem State.takeReset_spc (k : ResetKind) : (s.takeReset k).spc = s.spc := rfl
@[simp] theorem State.takeReset_mach (k : ResetKind) : (s.takeReset k).mach = Config.unspecified (s.freeCount + 25) := rfl
@[simp] theorem State.takeReset_macl (k : ResetKind) : (s.takeReset k).macl = Config.unspecified (s.freeCount + 26) := rfl
@[simp] theorem State.takeReset_pr (k : ResetKind) : (s.takeReset k).pr = Config.unspecified (s.freeCount + 27) := rfl
@[simp] theorem State.takeReset_tra (k : ResetKind) : (s.takeReset k).tra = Config.unspecified (s.freeCount + 28) &&& EventReg.tra.mask := rfl
@[simp] theorem State.takeReset_expevt (k : ResetKind) : (s.takeReset k).expevt = k.code := rfl
@[simp] theorem State.takeReset_intevt (k : ResetKind) : (s.takeReset k).intevt = Config.unspecified (s.freeCount + 29) &&& EventReg.intevt.mask := rfl
@[simp] theorem State.takeReset_asleep (k : ResetKind) : (s.takeReset k).asleep = false := rfl
@[simp] theorem State.takeReset_resetPin (k : ResetKind) : (s.takeReset k).resetPin = none := rfl
@[simp] theorem State.takeReset_nmi (k : ResetKind) : (s.takeReset k).nmi = s.nmi := rfl
@[simp] theorem State.takeReset_level (k : ResetKind) : (s.takeReset k).level = s.level := rfl
@[simp] theorem State.takeReset_endian (k : ResetKind) : (s.takeReset k).endian = s.endian := rfl
@[simp] theorem State.takeReset_mem (k : ResetKind) : (s.takeReset k).mem = s.mem := rfl
@[simp] theorem State.takeReset_storedTo (k : ResetKind) : (s.takeReset k).storedTo = s.storedTo := rfl
@[simp] theorem State.takeReset_shared (k : ResetKind) : (s.takeReset k).shared = s.shared := rfl
@[simp] theorem State.takeReset_freeCount (k : ResetKind) : (s.takeReset k).freeCount = s.freeCount + 31 := rfl
@[simp] theorem State.takeReset_oracleCount (k : ResetKind) : (s.takeReset k).oracleCount = s.oracleCount := rfl

/-! ### State.present -/

@[simp] theorem State.present_bank0 (r : Option ResetKind) (n : Bool) (l : Fin 16) : (s.present r n l).bank0 = s.bank0 := rfl
@[simp] theorem State.present_bank1 (r : Option ResetKind) (n : Bool) (l : Fin 16) : (s.present r n l).bank1 = s.bank1 := rfl
@[simp] theorem State.present_high (r : Option ResetKind) (n : Bool) (l : Fin 16) : (s.present r n l).high = s.high := rfl
@[simp] theorem State.present_pc (r : Option ResetKind) (n : Bool) (l : Fin 16) : (s.present r n l).pc = s.pc := rfl
@[simp] theorem State.present_slot (r : Option ResetKind) (n : Bool) (l : Fin 16) : (s.present r n l).slot = s.slot := rfl
@[simp] theorem State.present_sr (r : Option ResetKind) (n : Bool) (l : Fin 16) : (s.present r n l).sr = s.sr := rfl
@[simp] theorem State.present_gbr (r : Option ResetKind) (n : Bool) (l : Fin 16) : (s.present r n l).gbr = s.gbr := rfl
@[simp] theorem State.present_vbr (r : Option ResetKind) (n : Bool) (l : Fin 16) : (s.present r n l).vbr = s.vbr := rfl
@[simp] theorem State.present_ssr (r : Option ResetKind) (n : Bool) (l : Fin 16) : (s.present r n l).ssr = s.ssr := rfl
@[simp] theorem State.present_spc (r : Option ResetKind) (n : Bool) (l : Fin 16) : (s.present r n l).spc = s.spc := rfl
@[simp] theorem State.present_mach (r : Option ResetKind) (n : Bool) (l : Fin 16) : (s.present r n l).mach = s.mach := rfl
@[simp] theorem State.present_macl (r : Option ResetKind) (n : Bool) (l : Fin 16) : (s.present r n l).macl = s.macl := rfl
@[simp] theorem State.present_pr (r : Option ResetKind) (n : Bool) (l : Fin 16) : (s.present r n l).pr = s.pr := rfl
@[simp] theorem State.present_tra (r : Option ResetKind) (n : Bool) (l : Fin 16) : (s.present r n l).tra = s.tra := rfl
@[simp] theorem State.present_expevt (r : Option ResetKind) (n : Bool) (l : Fin 16) : (s.present r n l).expevt = s.expevt := rfl
@[simp] theorem State.present_intevt (r : Option ResetKind) (n : Bool) (l : Fin 16) : (s.present r n l).intevt = s.intevt := rfl
@[simp] theorem State.present_asleep (r : Option ResetKind) (n : Bool) (l : Fin 16) : (s.present r n l).asleep = s.asleep := rfl
@[simp] theorem State.present_resetPin (r : Option ResetKind) (n : Bool) (l : Fin 16) : (s.present r n l).resetPin = r := rfl
@[simp] theorem State.present_nmi (r : Option ResetKind) (n : Bool) (l : Fin 16) : (s.present r n l).nmi = n := rfl
@[simp] theorem State.present_level (r : Option ResetKind) (n : Bool) (l : Fin 16) : (s.present r n l).level = l := rfl
@[simp] theorem State.present_endian (r : Option ResetKind) (n : Bool) (l : Fin 16) : (s.present r n l).endian = s.endian := rfl
@[simp] theorem State.present_mem (r : Option ResetKind) (n : Bool) (l : Fin 16) : (s.present r n l).mem = s.mem := rfl
@[simp] theorem State.present_storedTo (r : Option ResetKind) (n : Bool) (l : Fin 16) : (s.present r n l).storedTo = s.storedTo := rfl
@[simp] theorem State.present_shared (r : Option ResetKind) (n : Bool) (l : Fin 16) : (s.present r n l).shared = s.shared := rfl
@[simp] theorem State.present_freeCount (r : Option ResetKind) (n : Bool) (l : Fin 16) : (s.present r n l).freeCount = s.freeCount := rfl
@[simp] theorem State.present_oracleCount (r : Option ResetKind) (n : Bool) (l : Fin 16) : (s.present r n l).oracleCount = s.oracleCount := rfl

/-! ### State.declareShared -/

@[simp] theorem State.declareShared_bank0 (a n : Nat) : (s.declareShared a n).bank0 = s.bank0 := rfl
@[simp] theorem State.declareShared_bank1 (a n : Nat) : (s.declareShared a n).bank1 = s.bank1 := rfl
@[simp] theorem State.declareShared_high (a n : Nat) : (s.declareShared a n).high = s.high := rfl
@[simp] theorem State.declareShared_pc (a n : Nat) : (s.declareShared a n).pc = s.pc := rfl
@[simp] theorem State.declareShared_slot (a n : Nat) : (s.declareShared a n).slot = s.slot := rfl
@[simp] theorem State.declareShared_sr (a n : Nat) : (s.declareShared a n).sr = s.sr := rfl
@[simp] theorem State.declareShared_gbr (a n : Nat) : (s.declareShared a n).gbr = s.gbr := rfl
@[simp] theorem State.declareShared_vbr (a n : Nat) : (s.declareShared a n).vbr = s.vbr := rfl
@[simp] theorem State.declareShared_ssr (a n : Nat) : (s.declareShared a n).ssr = s.ssr := rfl
@[simp] theorem State.declareShared_spc (a n : Nat) : (s.declareShared a n).spc = s.spc := rfl
@[simp] theorem State.declareShared_mach (a n : Nat) : (s.declareShared a n).mach = s.mach := rfl
@[simp] theorem State.declareShared_macl (a n : Nat) : (s.declareShared a n).macl = s.macl := rfl
@[simp] theorem State.declareShared_pr (a n : Nat) : (s.declareShared a n).pr = s.pr := rfl
@[simp] theorem State.declareShared_tra (a n : Nat) : (s.declareShared a n).tra = s.tra := rfl
@[simp] theorem State.declareShared_expevt (a n : Nat) : (s.declareShared a n).expevt = s.expevt := rfl
@[simp] theorem State.declareShared_intevt (a n : Nat) : (s.declareShared a n).intevt = s.intevt := rfl
@[simp] theorem State.declareShared_asleep (a n : Nat) : (s.declareShared a n).asleep = s.asleep := rfl
@[simp] theorem State.declareShared_resetPin (a n : Nat) : (s.declareShared a n).resetPin = s.resetPin := rfl
@[simp] theorem State.declareShared_nmi (a n : Nat) : (s.declareShared a n).nmi = s.nmi := rfl
@[simp] theorem State.declareShared_level (a n : Nat) : (s.declareShared a n).level = s.level := rfl
@[simp] theorem State.declareShared_endian (a n : Nat) : (s.declareShared a n).endian = s.endian := rfl
@[simp] theorem State.declareShared_mem (a n : Nat) : (s.declareShared a n).mem = s.mem := rfl
@[simp] theorem State.declareShared_storedTo (a n : Nat) : (s.declareShared a n).storedTo = s.storedTo := rfl
@[simp] theorem State.declareShared_shared (a n : Nat) : (s.declareShared a n).shared = addAddresses s.shared a n := rfl
@[simp] theorem State.declareShared_freeCount (a n : Nat) : (s.declareShared a n).freeCount = s.freeCount := rfl
@[simp] theorem State.declareShared_oracleCount (a n : Nat) : (s.declareShared a n).oracleCount = s.oracleCount := rfl

/-! ### State.placeWord -/

@[simp] theorem State.placeWord_bank0 (w : Half) : (s.placeWord w).bank0 = s.bank0 := rfl
@[simp] theorem State.placeWord_bank1 (w : Half) : (s.placeWord w).bank1 = s.bank1 := rfl
@[simp] theorem State.placeWord_high (w : Half) : (s.placeWord w).high = s.high := rfl
@[simp] theorem State.placeWord_pc (w : Half) : (s.placeWord w).pc = s.pc := rfl
@[simp] theorem State.placeWord_slot (w : Half) : (s.placeWord w).slot = s.slot := rfl
@[simp] theorem State.placeWord_sr (w : Half) : (s.placeWord w).sr = s.sr := rfl
@[simp] theorem State.placeWord_gbr (w : Half) : (s.placeWord w).gbr = s.gbr := rfl
@[simp] theorem State.placeWord_vbr (w : Half) : (s.placeWord w).vbr = s.vbr := rfl
@[simp] theorem State.placeWord_ssr (w : Half) : (s.placeWord w).ssr = s.ssr := rfl
@[simp] theorem State.placeWord_spc (w : Half) : (s.placeWord w).spc = s.spc := rfl
@[simp] theorem State.placeWord_mach (w : Half) : (s.placeWord w).mach = s.mach := rfl
@[simp] theorem State.placeWord_macl (w : Half) : (s.placeWord w).macl = s.macl := rfl
@[simp] theorem State.placeWord_pr (w : Half) : (s.placeWord w).pr = s.pr := rfl
@[simp] theorem State.placeWord_tra (w : Half) : (s.placeWord w).tra = s.tra := rfl
@[simp] theorem State.placeWord_expevt (w : Half) : (s.placeWord w).expevt = s.expevt := rfl
@[simp] theorem State.placeWord_intevt (w : Half) : (s.placeWord w).intevt = s.intevt := rfl
@[simp] theorem State.placeWord_asleep (w : Half) : (s.placeWord w).asleep = false := rfl
@[simp] theorem State.placeWord_resetPin (w : Half) : (s.placeWord w).resetPin = none := rfl
@[simp] theorem State.placeWord_nmi (w : Half) : (s.placeWord w).nmi = false := rfl
@[simp] theorem State.placeWord_level (w : Half) : (s.placeWord w).level = 0 := rfl
@[simp] theorem State.placeWord_endian (w : Half) : (s.placeWord w).endian = s.endian := rfl
@[simp] theorem State.placeWord_mem (w : Half) : (s.placeWord w).mem = s.mem.writeBytes (physical s.pc) (s.endian.split2 w) := rfl
@[simp] theorem State.placeWord_storedTo (w : Half) : (s.placeWord w).storedTo = s.storedTo.filter fun a => a ≠ physical s.pc && a ≠ physical s.pc + 1 := rfl
@[simp] theorem State.placeWord_shared (w : Half) : (s.placeWord w).shared = s.shared.filter fun a => a ≠ physical s.pc && a ≠ physical s.pc + 1 := rfl
@[simp] theorem State.placeWord_freeCount (w : Half) : (s.placeWord w).freeCount = s.freeCount := rfl
@[simp] theorem State.placeWord_oracleCount (w : Half) : (s.placeWord w).oracleCount = s.oracleCount := rfl

end Sys2Proof.Machine
end

