-- ==== Sys2Proof/Laws/Registers.lean ====
section
/-! SUPPORT. What the flags, the mode and the general registers are after every named update. -/

namespace Sys2Proof.Machine

/-- Bit j of a word with bit k set to b. -/
theorem getLsbD_setBit (w : Word) (k j : Nat) (b : Bool) (hk : k < 32) :
    (setBit w k b).getLsbD j = if j = k then b else w.getLsbD j := by
  unfold setBit zext1
  by_cases hj : j < 32
  · by_cases h : j = k
    · subst h; cases b <;> simp [hj]
    · by_cases h2 : j < k
      · simp [hj, h, h2]
      · have h3 : ¬ (j - k = 0) := by omega
        cases b <;> simp [hj, h, h2, h3]
  · have h : j ≠ k := by omega
    simp [h, BitVec.getLsbD_of_ge _ _ (by omega : 32 ≤ j)]

theorem getElem_setBit (w : Word) (k j : Nat) (b : Bool) (hk : k < 32) (hj : j < 32) :
    (setBit w k b)[j] = if j = k then b else w[j] := by
  rw [← BitVec.getLsbD_eq_getElem, getLsbD_setBit w k j b hk, BitVec.getLsbD_eq_getElem hj]

/-- The mask of the whole SR, bit by bit (R34). -/
theorem getLsbD_srMask (k : Nat) : srMask.getLsbD k =
    (k == 0 || k == 1 || (4 ≤ k && k ≤ 9) || (28 ≤ k && k ≤ 30)) := by
  by_cases h : k < 32
  · interval_cases k <;> decide
  · rw [BitVec.getLsbD_of_ge _ _ (by omega)]; simp; omega

theorem getElem_srMask (k : Nat) (h : k < 32) : srMask[k] =
    (k == 0 || k == 1 || (4 ≤ k && k ≤ 9) || (28 ≤ k && k ≤ 30)) := by
  rw [← BitVec.getLsbD_eq_getElem, getLsbD_srMask]

/-- The bits that exception entry sets (R370 step 3). -/
theorem getLsbD_srEntryBits (k : Nat) : srEntryBits.getLsbD k = (28 ≤ k && k ≤ 30) := by
  by_cases h : k < 32
  · interval_cases k <;> decide
  · rw [BitVec.getLsbD_of_ge _ _ (by omega)]; simp; omega

variable (s : State)

/-! ### State.setGbr -/

@[simp] theorem State.setGbr_flagT (v : Word) : (s.setGbr v).flagT = s.flagT := rfl
@[simp] theorem State.setGbr_flagS (v : Word) : (s.setGbr v).flagS = s.flagS := rfl
@[simp] theorem State.setGbr_flagQ (v : Word) : (s.setGbr v).flagQ = s.flagQ := rfl
@[simp] theorem State.setGbr_flagM (v : Word) : (s.setGbr v).flagM = s.flagM := rfl
@[simp] theorem State.setGbr_maskLevel (v : Word) : (s.setGbr v).maskLevel = s.maskLevel := rfl
@[simp] theorem State.setGbr_blocked (v : Word) : (s.setGbr v).blocked = s.blocked := rfl
@[simp] theorem State.setGbr_rb (v : Word) : (s.setGbr v).rb = s.rb := rfl
@[simp] theorem State.setGbr_privileged (v : Word) : (s.setGbr v).privileged = s.privileged := rfl
@[simp] theorem State.setGbr_srWord (v : Word) : (s.setGbr v).srWord = s.srWord := rfl
@[simp] theorem State.setGbr_frontIsBank1 (v : Word) : (s.setGbr v).frontIsBank1 = s.frontIsBank1 := rfl
@[simp] theorem State.setGbr_inSlot (v : Word) : (s.setGbr v).inSlot = s.inSlot := rfl
@[simp] theorem State.setGbr_reg (v : Word) (r : Reg) : (s.setGbr v).reg r = s.reg r := rfl
@[simp] theorem State.setGbr_backReg (v : Word) (b : BankReg) : (s.setGbr v).backReg b = s.backReg b := rfl
@[simp] theorem State.setGbr_mac (v : Word) : (s.setGbr v).mac = s.mac := rfl

/-! ### State.setVbr -/

@[simp] theorem State.setVbr_flagT (v : Word) : (s.setVbr v).flagT = s.flagT := rfl
@[simp] theorem State.setVbr_flagS (v : Word) : (s.setVbr v).flagS = s.flagS := rfl
@[simp] theorem State.setVbr_flagQ (v : Word) : (s.setVbr v).flagQ = s.flagQ := rfl
@[simp] theorem State.setVbr_flagM (v : Word) : (s.setVbr v).flagM = s.flagM := rfl
@[simp] theorem State.setVbr_maskLevel (v : Word) : (s.setVbr v).maskLevel = s.maskLevel := rfl
@[simp] theorem State.setVbr_blocked (v : Word) : (s.setVbr v).blocked = s.blocked := rfl
@[simp] theorem State.setVbr_rb (v : Word) : (s.setVbr v).rb = s.rb := rfl
@[simp] theorem State.setVbr_privileged (v : Word) : (s.setVbr v).privileged = s.privileged := rfl
@[simp] theorem State.setVbr_srWord (v : Word) : (s.setVbr v).srWord = s.srWord := rfl
@[simp] theorem State.setVbr_frontIsBank1 (v : Word) : (s.setVbr v).frontIsBank1 = s.frontIsBank1 := rfl
@[simp] theorem State.setVbr_inSlot (v : Word) : (s.setVbr v).inSlot = s.inSlot := rfl
@[simp] theorem State.setVbr_reg (v : Word) (r : Reg) : (s.setVbr v).reg r = s.reg r := rfl
@[simp] theorem State.setVbr_backReg (v : Word) (b : BankReg) : (s.setVbr v).backReg b = s.backReg b := rfl
@[simp] theorem State.setVbr_mac (v : Word) : (s.setVbr v).mac = s.mac := rfl

/-! ### State.setSsr -/

@[simp] theorem State.setSsr_flagT (v : Word) : (s.setSsr v).flagT = s.flagT := rfl
@[simp] theorem State.setSsr_flagS (v : Word) : (s.setSsr v).flagS = s.flagS := rfl
@[simp] theorem State.setSsr_flagQ (v : Word) : (s.setSsr v).flagQ = s.flagQ := rfl
@[simp] theorem State.setSsr_flagM (v : Word) : (s.setSsr v).flagM = s.flagM := rfl
@[simp] theorem State.setSsr_maskLevel (v : Word) : (s.setSsr v).maskLevel = s.maskLevel := rfl
@[simp] theorem State.setSsr_blocked (v : Word) : (s.setSsr v).blocked = s.blocked := rfl
@[simp] theorem State.setSsr_rb (v : Word) : (s.setSsr v).rb = s.rb := rfl
@[simp] theorem State.setSsr_privileged (v : Word) : (s.setSsr v).privileged = s.privileged := rfl
@[simp] theorem State.setSsr_srWord (v : Word) : (s.setSsr v).srWord = s.srWord := rfl
@[simp] theorem State.setSsr_frontIsBank1 (v : Word) : (s.setSsr v).frontIsBank1 = s.frontIsBank1 := rfl
@[simp] theorem State.setSsr_inSlot (v : Word) : (s.setSsr v).inSlot = s.inSlot := rfl
@[simp] theorem State.setSsr_reg (v : Word) (r : Reg) : (s.setSsr v).reg r = s.reg r := rfl
@[simp] theorem State.setSsr_backReg (v : Word) (b : BankReg) : (s.setSsr v).backReg b = s.backReg b := rfl
@[simp] theorem State.setSsr_mac (v : Word) : (s.setSsr v).mac = s.mac := rfl

/-! ### State.setSpc -/

@[simp] theorem State.setSpc_flagT (v : Word) : (s.setSpc v).flagT = s.flagT := rfl
@[simp] theorem State.setSpc_flagS (v : Word) : (s.setSpc v).flagS = s.flagS := rfl
@[simp] theorem State.setSpc_flagQ (v : Word) : (s.setSpc v).flagQ = s.flagQ := rfl
@[simp] theorem State.setSpc_flagM (v : Word) : (s.setSpc v).flagM = s.flagM := rfl
@[simp] theorem State.setSpc_maskLevel (v : Word) : (s.setSpc v).maskLevel = s.maskLevel := rfl
@[simp] theorem State.setSpc_blocked (v : Word) : (s.setSpc v).blocked = s.blocked := rfl
@[simp] theorem State.setSpc_rb (v : Word) : (s.setSpc v).rb = s.rb := rfl
@[simp] theorem State.setSpc_privileged (v : Word) : (s.setSpc v).privileged = s.privileged := rfl
@[simp] theorem State.setSpc_srWord (v : Word) : (s.setSpc v).srWord = s.srWord := rfl
@[simp] theorem State.setSpc_frontIsBank1 (v : Word) : (s.setSpc v).frontIsBank1 = s.frontIsBank1 := rfl
@[simp] theorem State.setSpc_inSlot (v : Word) : (s.setSpc v).inSlot = s.inSlot := rfl
@[simp] theorem State.setSpc_reg (v : Word) (r : Reg) : (s.setSpc v).reg r = s.reg r := rfl
@[simp] theorem State.setSpc_backReg (v : Word) (b : BankReg) : (s.setSpc v).backReg b = s.backReg b := rfl
@[simp] theorem State.setSpc_mac (v : Word) : (s.setSpc v).mac = s.mac := rfl

/-! ### State.setMach -/

@[simp] theorem State.setMach_flagT (v : Word) : (s.setMach v).flagT = s.flagT := rfl
@[simp] theorem State.setMach_flagS (v : Word) : (s.setMach v).flagS = s.flagS := rfl
@[simp] theorem State.setMach_flagQ (v : Word) : (s.setMach v).flagQ = s.flagQ := rfl
@[simp] theorem State.setMach_flagM (v : Word) : (s.setMach v).flagM = s.flagM := rfl
@[simp] theorem State.setMach_maskLevel (v : Word) : (s.setMach v).maskLevel = s.maskLevel := rfl
@[simp] theorem State.setMach_blocked (v : Word) : (s.setMach v).blocked = s.blocked := rfl
@[simp] theorem State.setMach_rb (v : Word) : (s.setMach v).rb = s.rb := rfl
@[simp] theorem State.setMach_privileged (v : Word) : (s.setMach v).privileged = s.privileged := rfl
@[simp] theorem State.setMach_srWord (v : Word) : (s.setMach v).srWord = s.srWord := rfl
@[simp] theorem State.setMach_frontIsBank1 (v : Word) : (s.setMach v).frontIsBank1 = s.frontIsBank1 := rfl
@[simp] theorem State.setMach_inSlot (v : Word) : (s.setMach v).inSlot = s.inSlot := rfl
@[simp] theorem State.setMach_reg (v : Word) (r : Reg) : (s.setMach v).reg r = s.reg r := rfl
@[simp] theorem State.setMach_backReg (v : Word) (b : BankReg) : (s.setMach v).backReg b = s.backReg b := rfl

/-! ### State.setMacl -/

@[simp] theorem State.setMacl_flagT (v : Word) : (s.setMacl v).flagT = s.flagT := rfl
@[simp] theorem State.setMacl_flagS (v : Word) : (s.setMacl v).flagS = s.flagS := rfl
@[simp] theorem State.setMacl_flagQ (v : Word) : (s.setMacl v).flagQ = s.flagQ := rfl
@[simp] theorem State.setMacl_flagM (v : Word) : (s.setMacl v).flagM = s.flagM := rfl
@[simp] theorem State.setMacl_maskLevel (v : Word) : (s.setMacl v).maskLevel = s.maskLevel := rfl
@[simp] theorem State.setMacl_blocked (v : Word) : (s.setMacl v).blocked = s.blocked := rfl
@[simp] theorem State.setMacl_rb (v : Word) : (s.setMacl v).rb = s.rb := rfl
@[simp] theorem State.setMacl_privileged (v : Word) : (s.setMacl v).privileged = s.privileged := rfl
@[simp] theorem State.setMacl_srWord (v : Word) : (s.setMacl v).srWord = s.srWord := rfl
@[simp] theorem State.setMacl_frontIsBank1 (v : Word) : (s.setMacl v).frontIsBank1 = s.frontIsBank1 := rfl
@[simp] theorem State.setMacl_inSlot (v : Word) : (s.setMacl v).inSlot = s.inSlot := rfl
@[simp] theorem State.setMacl_reg (v : Word) (r : Reg) : (s.setMacl v).reg r = s.reg r := rfl
@[simp] theorem State.setMacl_backReg (v : Word) (b : BankReg) : (s.setMacl v).backReg b = s.backReg b := rfl

/-! ### State.setPr -/

@[simp] theorem State.setPr_flagT (v : Word) : (s.setPr v).flagT = s.flagT := rfl
@[simp] theorem State.setPr_flagS (v : Word) : (s.setPr v).flagS = s.flagS := rfl
@[simp] theorem State.setPr_flagQ (v : Word) : (s.setPr v).flagQ = s.flagQ := rfl
@[simp] theorem State.setPr_flagM (v : Word) : (s.setPr v).flagM = s.flagM := rfl
@[simp] theorem State.setPr_maskLevel (v : Word) : (s.setPr v).maskLevel = s.maskLevel := rfl
@[simp] theorem State.setPr_blocked (v : Word) : (s.setPr v).blocked = s.blocked := rfl
@[simp] theorem State.setPr_rb (v : Word) : (s.setPr v).rb = s.rb := rfl
@[simp] theorem State.setPr_privileged (v : Word) : (s.setPr v).privileged = s.privileged := rfl
@[simp] theorem State.setPr_srWord (v : Word) : (s.setPr v).srWord = s.srWord := rfl
@[simp] theorem State.setPr_frontIsBank1 (v : Word) : (s.setPr v).frontIsBank1 = s.frontIsBank1 := rfl
@[simp] theorem State.setPr_inSlot (v : Word) : (s.setPr v).inSlot = s.inSlot := rfl
@[simp] theorem State.setPr_reg (v : Word) (r : Reg) : (s.setPr v).reg r = s.reg r := rfl
@[simp] theorem State.setPr_backReg (v : Word) (b : BankReg) : (s.setPr v).backReg b = s.backReg b := rfl
@[simp] theorem State.setPr_mac (v : Word) : (s.setPr v).mac = s.mac := rfl

/-! ### State.setMac -/

@[simp] theorem State.setMac_flagT (v : BitVec 64) : (s.setMac v).flagT = s.flagT := rfl
@[simp] theorem State.setMac_flagS (v : BitVec 64) : (s.setMac v).flagS = s.flagS := rfl
@[simp] theorem State.setMac_flagQ (v : BitVec 64) : (s.setMac v).flagQ = s.flagQ := rfl
@[simp] theorem State.setMac_flagM (v : BitVec 64) : (s.setMac v).flagM = s.flagM := rfl
@[simp] theorem State.setMac_maskLevel (v : BitVec 64) : (s.setMac v).maskLevel = s.maskLevel := rfl
@[simp] theorem State.setMac_blocked (v : BitVec 64) : (s.setMac v).blocked = s.blocked := rfl
@[simp] theorem State.setMac_rb (v : BitVec 64) : (s.setMac v).rb = s.rb := rfl
@[simp] theorem State.setMac_privileged (v : BitVec 64) : (s.setMac v).privileged = s.privileged := rfl
@[simp] theorem State.setMac_srWord (v : BitVec 64) : (s.setMac v).srWord = s.srWord := rfl
@[simp] theorem State.setMac_frontIsBank1 (v : BitVec 64) : (s.setMac v).frontIsBank1 = s.frontIsBank1 := rfl
@[simp] theorem State.setMac_inSlot (v : BitVec 64) : (s.setMac v).inSlot = s.inSlot := rfl
@[simp] theorem State.setMac_reg (v : BitVec 64) (r : Reg) : (s.setMac v).reg r = s.reg r := rfl
@[simp] theorem State.setMac_backReg (v : BitVec 64) (b : BankReg) : (s.setMac v).backReg b = s.backReg b := rfl

/-! ### State.storeBytes -/

@[simp] theorem State.storeBytes_flagT (a : Nat) (l : List Byte) : (s.storeBytes a l).flagT = s.flagT := rfl
@[simp] theorem State.storeBytes_flagS (a : Nat) (l : List Byte) : (s.storeBytes a l).flagS = s.flagS := rfl
@[simp] theorem State.storeBytes_flagQ (a : Nat) (l : List Byte) : (s.storeBytes a l).flagQ = s.flagQ := rfl
@[simp] theorem State.storeBytes_flagM (a : Nat) (l : List Byte) : (s.storeBytes a l).flagM = s.flagM := rfl
@[simp] theorem State.storeBytes_maskLevel (a : Nat) (l : List Byte) : (s.storeBytes a l).maskLevel = s.maskLevel := rfl
@[simp] theorem State.storeBytes_blocked (a : Nat) (l : List Byte) : (s.storeBytes a l).blocked = s.blocked := rfl
@[simp] theorem State.storeBytes_rb (a : Nat) (l : List Byte) : (s.storeBytes a l).rb = s.rb := rfl
@[simp] theorem State.storeBytes_privileged (a : Nat) (l : List Byte) : (s.storeBytes a l).privileged = s.privileged := rfl
@[simp] theorem State.storeBytes_srWord (a : Nat) (l : List Byte) : (s.storeBytes a l).srWord = s.srWord := rfl
@[simp] theorem State.storeBytes_frontIsBank1 (a : Nat) (l : List Byte) : (s.storeBytes a l).frontIsBank1 = s.frontIsBank1 := rfl
@[simp] theorem State.storeBytes_inSlot (a : Nat) (l : List Byte) : (s.storeBytes a l).inSlot = s.inSlot := rfl
@[simp] theorem State.storeBytes_reg (a : Nat) (l : List Byte) (r : Reg) : (s.storeBytes a l).reg r = s.reg r := rfl
@[simp] theorem State.storeBytes_backReg (a : Nat) (l : List Byte) (b : BankReg) : (s.storeBytes a l).backReg b = s.backReg b := rfl
@[simp] theorem State.storeBytes_mac (a : Nat) (l : List Byte) : (s.storeBytes a l).mac = s.mac := rfl

/-! ### State.present -/

@[simp] theorem State.present_flagT (q : Option ResetKind) (n : Bool) (l : Fin 16) : (s.present q n l).flagT = s.flagT := rfl
@[simp] theorem State.present_flagS (q : Option ResetKind) (n : Bool) (l : Fin 16) : (s.present q n l).flagS = s.flagS := rfl
@[simp] theorem State.present_flagQ (q : Option ResetKind) (n : Bool) (l : Fin 16) : (s.present q n l).flagQ = s.flagQ := rfl
@[simp] theorem State.present_flagM (q : Option ResetKind) (n : Bool) (l : Fin 16) : (s.present q n l).flagM = s.flagM := rfl
@[simp] theorem State.present_maskLevel (q : Option ResetKind) (n : Bool) (l : Fin 16) : (s.present q n l).maskLevel = s.maskLevel := rfl
@[simp] theorem State.present_blocked (q : Option ResetKind) (n : Bool) (l : Fin 16) : (s.present q n l).blocked = s.blocked := rfl
@[simp] theorem State.present_rb (q : Option ResetKind) (n : Bool) (l : Fin 16) : (s.present q n l).rb = s.rb := rfl
@[simp] theorem State.present_privileged (q : Option ResetKind) (n : Bool) (l : Fin 16) : (s.present q n l).privileged = s.privileged := rfl
@[simp] theorem State.present_srWord (q : Option ResetKind) (n : Bool) (l : Fin 16) : (s.present q n l).srWord = s.srWord := rfl
@[simp] theorem State.present_frontIsBank1 (q : Option ResetKind) (n : Bool) (l : Fin 16) : (s.present q n l).frontIsBank1 = s.frontIsBank1 := rfl
@[simp] theorem State.present_inSlot (q : Option ResetKind) (n : Bool) (l : Fin 16) : (s.present q n l).inSlot = s.inSlot := rfl
@[simp] theorem State.present_reg (q : Option ResetKind) (n : Bool) (l : Fin 16) (r : Reg) : (s.present q n l).reg r = s.reg r := rfl
@[simp] theorem State.present_backReg (q : Option ResetKind) (n : Bool) (l : Fin 16) (b : BankReg) : (s.present q n l).backReg b = s.backReg b := rfl
@[simp] theorem State.present_mac (q : Option ResetKind) (n : Bool) (l : Fin 16) : (s.present q n l).mac = s.mac := rfl

/-! ### State.nextAnswers -/

@[simp] theorem State.nextAnswers_flagT : s.nextAnswers.flagT = s.flagT := rfl
@[simp] theorem State.nextAnswers_flagS : s.nextAnswers.flagS = s.flagS := rfl
@[simp] theorem State.nextAnswers_flagQ : s.nextAnswers.flagQ = s.flagQ := rfl
@[simp] theorem State.nextAnswers_flagM : s.nextAnswers.flagM = s.flagM := rfl
@[simp] theorem State.nextAnswers_maskLevel : s.nextAnswers.maskLevel = s.maskLevel := rfl
@[simp] theorem State.nextAnswers_blocked : s.nextAnswers.blocked = s.blocked := rfl
@[simp] theorem State.nextAnswers_rb : s.nextAnswers.rb = s.rb := rfl
@[simp] theorem State.nextAnswers_privileged : s.nextAnswers.privileged = s.privileged := rfl
@[simp] theorem State.nextAnswers_srWord : s.nextAnswers.srWord = s.srWord := rfl
@[simp] theorem State.nextAnswers_frontIsBank1 : s.nextAnswers.frontIsBank1 = s.frontIsBank1 := rfl
@[simp] theorem State.nextAnswers_inSlot : s.nextAnswers.inSlot = s.inSlot := rfl
@[simp] theorem State.nextAnswers_reg (r : Reg) : s.nextAnswers.reg r = s.reg r := rfl
@[simp] theorem State.nextAnswers_backReg (b : BankReg) : s.nextAnswers.backReg b = s.backReg b := rfl
@[simp] theorem State.nextAnswers_mac : s.nextAnswers.mac = s.mac := rfl

/-! ### State.declareShared -/

@[simp] theorem State.declareShared_flagT (a n : Nat) : (s.declareShared a n).flagT = s.flagT := rfl
@[simp] theorem State.declareShared_flagS (a n : Nat) : (s.declareShared a n).flagS = s.flagS := rfl
@[simp] theorem State.declareShared_flagQ (a n : Nat) : (s.declareShared a n).flagQ = s.flagQ := rfl
@[simp] theorem State.declareShared_flagM (a n : Nat) : (s.declareShared a n).flagM = s.flagM := rfl
@[simp] theorem State.declareShared_maskLevel (a n : Nat) : (s.declareShared a n).maskLevel = s.maskLevel := rfl
@[simp] theorem State.declareShared_blocked (a n : Nat) : (s.declareShared a n).blocked = s.blocked := rfl
@[simp] theorem State.declareShared_rb (a n : Nat) : (s.declareShared a n).rb = s.rb := rfl
@[simp] theorem State.declareShared_privileged (a n : Nat) : (s.declareShared a n).privileged = s.privileged := rfl
@[simp] theorem State.declareShared_srWord (a n : Nat) : (s.declareShared a n).srWord = s.srWord := rfl
@[simp] theorem State.declareShared_frontIsBank1 (a n : Nat) : (s.declareShared a n).frontIsBank1 = s.frontIsBank1 := rfl
@[simp] theorem State.declareShared_inSlot (a n : Nat) : (s.declareShared a n).inSlot = s.inSlot := rfl
@[simp] theorem State.declareShared_reg (a n : Nat) (r : Reg) : (s.declareShared a n).reg r = s.reg r := rfl
@[simp] theorem State.declareShared_backReg (a n : Nat) (b : BankReg) : (s.declareShared a n).backReg b = s.backReg b := rfl
@[simp] theorem State.declareShared_mac (a n : Nat) : (s.declareShared a n).mac = s.mac := rfl

/-! ### State.advance -/

@[simp] theorem State.advance_flagT : (s.advance).flagT = s.flagT := by simp [State.flagT]
@[simp] theorem State.advance_flagS : (s.advance).flagS = s.flagS := by simp [State.flagS]
@[simp] theorem State.advance_flagQ : (s.advance).flagQ = s.flagQ := by simp [State.flagQ]
@[simp] theorem State.advance_flagM : (s.advance).flagM = s.flagM := by simp [State.flagM]
@[simp] theorem State.advance_maskLevel : (s.advance).maskLevel = s.maskLevel := by simp [State.maskLevel]
@[simp] theorem State.advance_blocked : (s.advance).blocked = s.blocked := by simp [State.blocked]
@[simp] theorem State.advance_rb : (s.advance).rb = s.rb := by simp [State.rb]
@[simp] theorem State.advance_privileged : (s.advance).privileged = s.privileged := by simp [State.privileged]
@[simp] theorem State.advance_srWord : (s.advance).srWord = s.srWord := by simp [State.srWord]
@[simp] theorem State.advance_frontIsBank1 : (s.advance).frontIsBank1 = s.frontIsBank1 := by simp [State.frontIsBank1, State.frontIsBank1, State.privileged, State.rb]
@[simp] theorem State.advance_reg (r : Reg) : (s.advance).reg r = s.reg r := by unfold State.advance; split <;> rfl
@[simp] theorem State.advance_backReg (b : BankReg) : (s.advance).backReg b = s.backReg b := by unfold State.advance; split <;> rfl
@[simp] theorem State.advance_mac : (s.advance).mac = s.mac := by simp [State.mac]

/-! ### State.setReg -/

@[simp] theorem State.setReg_flagT (r : Reg) (v : Word) : (s.setReg r v).flagT = s.flagT := by simp [State.flagT]
@[simp] theorem State.setReg_flagS (r : Reg) (v : Word) : (s.setReg r v).flagS = s.flagS := by simp [State.flagS]
@[simp] theorem State.setReg_flagQ (r : Reg) (v : Word) : (s.setReg r v).flagQ = s.flagQ := by simp [State.flagQ]
@[simp] theorem State.setReg_flagM (r : Reg) (v : Word) : (s.setReg r v).flagM = s.flagM := by simp [State.flagM]
@[simp] theorem State.setReg_maskLevel (r : Reg) (v : Word) : (s.setReg r v).maskLevel = s.maskLevel := by simp [State.maskLevel]
@[simp] theorem State.setReg_blocked (r : Reg) (v : Word) : (s.setReg r v).blocked = s.blocked := by simp [State.blocked]
@[simp] theorem State.setReg_rb (r : Reg) (v : Word) : (s.setReg r v).rb = s.rb := by simp [State.rb]
@[simp] theorem State.setReg_privileged (r : Reg) (v : Word) : (s.setReg r v).privileged = s.privileged := by simp [State.privileged]
@[simp] theorem State.setReg_srWord (r : Reg) (v : Word) : (s.setReg r v).srWord = s.srWord := by simp [State.srWord]
@[simp] theorem State.setReg_frontIsBank1 (r : Reg) (v : Word) : (s.setReg r v).frontIsBank1 = s.frontIsBank1 := by simp [State.frontIsBank1, State.frontIsBank1, State.privileged, State.rb]
@[simp] theorem State.setReg_inSlot (r : Reg) (v : Word) : (s.setReg r v).inSlot = s.inSlot := by simp [State.inSlot]
@[simp] theorem State.setReg_mac (r : Reg) (v : Word) : (s.setReg r v).mac = s.mac := by simp [State.mac]

/-! ### State.setBackReg -/

@[simp] theorem State.setBackReg_flagT (b : BankReg) (v : Word) : (s.setBackReg b v).flagT = s.flagT := by simp [State.flagT]
@[simp] theorem State.setBackReg_flagS (b : BankReg) (v : Word) : (s.setBackReg b v).flagS = s.flagS := by simp [State.flagS]
@[simp] theorem State.setBackReg_flagQ (b : BankReg) (v : Word) : (s.setBackReg b v).flagQ = s.flagQ := by simp [State.flagQ]
@[simp] theorem State.setBackReg_flagM (b : BankReg) (v : Word) : (s.setBackReg b v).flagM = s.flagM := by simp [State.flagM]
@[simp] theorem State.setBackReg_maskLevel (b : BankReg) (v : Word) : (s.setBackReg b v).maskLevel = s.maskLevel := by simp [State.maskLevel]
@[simp] theorem State.setBackReg_blocked (b : BankReg) (v : Word) : (s.setBackReg b v).blocked = s.blocked := by simp [State.blocked]
@[simp] theorem State.setBackReg_rb (b : BankReg) (v : Word) : (s.setBackReg b v).rb = s.rb := by simp [State.rb]
@[simp] theorem State.setBackReg_privileged (b : BankReg) (v : Word) : (s.setBackReg b v).privileged = s.privileged := by simp [State.privileged]
@[simp] theorem State.setBackReg_srWord (b : BankReg) (v : Word) : (s.setBackReg b v).srWord = s.srWord := by simp [State.srWord]
@[simp] theorem State.setBackReg_frontIsBank1 (b : BankReg) (v : Word) : (s.setBackReg b v).frontIsBank1 = s.frontIsBank1 := by simp [State.frontIsBank1, State.frontIsBank1, State.privileged, State.rb]
@[simp] theorem State.setBackReg_inSlot (b : BankReg) (v : Word) : (s.setBackReg b v).inSlot = s.inSlot := by simp [State.inSlot]
@[simp] theorem State.setBackReg_mac (b : BankReg) (v : Word) : (s.setBackReg b v).mac = s.mac := by simp [State.mac]

/-! ### State.setEventReg -/

@[simp] theorem State.setEventReg_flagT (e : EventReg) (v : Word) : (s.setEventReg e v).flagT = s.flagT := by cases e <;> rfl
@[simp] theorem State.setEventReg_flagS (e : EventReg) (v : Word) : (s.setEventReg e v).flagS = s.flagS := by cases e <;> rfl
@[simp] theorem State.setEventReg_flagQ (e : EventReg) (v : Word) : (s.setEventReg e v).flagQ = s.flagQ := by cases e <;> rfl
@[simp] theorem State.setEventReg_flagM (e : EventReg) (v : Word) : (s.setEventReg e v).flagM = s.flagM := by cases e <;> rfl
@[simp] theorem State.setEventReg_maskLevel (e : EventReg) (v : Word) : (s.setEventReg e v).maskLevel = s.maskLevel := by cases e <;> rfl
@[simp] theorem State.setEventReg_blocked (e : EventReg) (v : Word) : (s.setEventReg e v).blocked = s.blocked := by cases e <;> rfl
@[simp] theorem State.setEventReg_rb (e : EventReg) (v : Word) : (s.setEventReg e v).rb = s.rb := by cases e <;> rfl
@[simp] theorem State.setEventReg_privileged (e : EventReg) (v : Word) : (s.setEventReg e v).privileged = s.privileged := by cases e <;> rfl
@[simp] theorem State.setEventReg_srWord (e : EventReg) (v : Word) : (s.setEventReg e v).srWord = s.srWord := by cases e <;> rfl
@[simp] theorem State.setEventReg_frontIsBank1 (e : EventReg) (v : Word) : (s.setEventReg e v).frontIsBank1 = s.frontIsBank1 := by cases e <;> rfl
@[simp] theorem State.setEventReg_inSlot (e : EventReg) (v : Word) : (s.setEventReg e v).inSlot = s.inSlot := by cases e <;> rfl
@[simp] theorem State.setEventReg_reg (e : EventReg) (v : Word) (r : Reg) : (s.setEventReg e v).reg r = s.reg r := by cases e <;> rfl
@[simp] theorem State.setEventReg_backReg (e : EventReg) (v : Word) (b : BankReg) : (s.setEventReg e v).backReg b = s.backReg b := by cases e <;> rfl
@[simp] theorem State.setEventReg_mac (e : EventReg) (v : Word) : (s.setEventReg e v).mac = s.mac := by cases e <;> rfl

/-! ### State.setT -/

@[simp] theorem State.setT_flagT (b : Bool) : (s.setT b).flagT = b := by simp [State.flagT, getElem_setBit]
@[simp] theorem State.setT_flagS (b : Bool) : (s.setT b).flagS = s.flagS := by simp [State.flagS, getElem_setBit]
@[simp] theorem State.setT_flagQ (b : Bool) : (s.setT b).flagQ = s.flagQ := by simp [State.flagQ, getElem_setBit]
@[simp] theorem State.setT_flagM (b : Bool) : (s.setT b).flagM = s.flagM := by simp [State.flagM, getElem_setBit]
@[simp] theorem State.setT_maskLevel (b : Bool) : (s.setT b).maskLevel = s.maskLevel := by
  unfold State.maskLevel; congr 1; ext k hk; simp [getLsbD_setBit]
@[simp] theorem State.setT_blocked (b : Bool) : (s.setT b).blocked = s.blocked := by simp [State.blocked, getElem_setBit]
@[simp] theorem State.setT_rb (b : Bool) : (s.setT b).rb = s.rb := by simp [State.rb, getElem_setBit]
@[simp] theorem State.setT_privileged (b : Bool) : (s.setT b).privileged = s.privileged := by simp [State.privileged, getElem_setBit]
@[simp] theorem State.setT_frontIsBank1 (b : Bool) : (s.setT b).frontIsBank1 = s.frontIsBank1 := by
  simp [State.frontIsBank1, State.privileged, State.rb, getElem_setBit]
@[simp] theorem State.setT_inSlot (b : Bool) : (s.setT b).inSlot = s.inSlot := rfl
@[simp] theorem State.setT_reg (b : Bool) (r : Reg) : (s.setT b).reg r = s.reg r := by
  unfold State.reg; rw [State.setT_frontIsBank1]; simp
@[simp] theorem State.setT_backReg (b : Bool) (c : BankReg) : (s.setT b).backReg c = s.backReg c := by
  unfold State.backReg; rw [State.setT_frontIsBank1]; simp
@[simp] theorem State.setT_mac (b : Bool) : (s.setT b).mac = s.mac := rfl

/-! ### State.setS -/

@[simp] theorem State.setS_flagT (b : Bool) : (s.setS b).flagT = s.flagT := by simp [State.flagT, getElem_setBit]
@[simp] theorem State.setS_flagS (b : Bool) : (s.setS b).flagS = b := by simp [State.flagS, getElem_setBit]
@[simp] theorem State.setS_flagQ (b : Bool) : (s.setS b).flagQ = s.flagQ := by simp [State.flagQ, getElem_setBit]
@[simp] theorem State.setS_flagM (b : Bool) : (s.setS b).flagM = s.flagM := by simp [State.flagM, getElem_setBit]
@[simp] theorem State.setS_maskLevel (b : Bool) : (s.setS b).maskLevel = s.maskLevel := by
  unfold State.maskLevel; congr 1; ext k hk; simp [getLsbD_setBit]; intro h; omega
@[simp] theorem State.setS_blocked (b : Bool) : (s.setS b).blocked = s.blocked := by simp [State.blocked, getElem_setBit]
@[simp] theorem State.setS_rb (b : Bool) : (s.setS b).rb = s.rb := by simp [State.rb, getElem_setBit]
@[simp] theorem State.setS_privileged (b : Bool) : (s.setS b).privileged = s.privileged := by simp [State.privileged, getElem_setBit]
@[simp] theorem State.setS_frontIsBank1 (b : Bool) : (s.setS b).frontIsBank1 = s.frontIsBank1 := by
  simp [State.frontIsBank1, State.privileged, State.rb, getElem_setBit]
@[simp] theorem State.setS_inSlot (b : Bool) : (s.setS b).inSlot = s.inSlot := rfl
@[simp] theorem State.setS_reg (b : Bool) (r : Reg) : (s.setS b).reg r = s.reg r := by
  unfold State.reg; rw [State.setS_frontIsBank1]; simp
@[simp] theorem State.setS_backReg (b : Bool) (c : BankReg) : (s.setS b).backReg c = s.backReg c := by
  unfold State.backReg; rw [State.setS_frontIsBank1]; simp
@[simp] theorem State.setS_mac (b : Bool) : (s.setS b).mac = s.mac := rfl

/-! ### State.setQ -/

@[simp] theorem State.setQ_flagT (b : Bool) : (s.setQ b).flagT = s.flagT := by simp [State.flagT, getElem_setBit]
@[simp] theorem State.setQ_flagS (b : Bool) : (s.setQ b).flagS = s.flagS := by simp [State.flagS, getElem_setBit]
@[simp] theorem State.setQ_flagQ (b : Bool) : (s.setQ b).flagQ = b := by simp [State.flagQ, getElem_setBit]
@[simp] theorem State.setQ_flagM (b : Bool) : (s.setQ b).flagM = s.flagM := by simp [State.flagM, getElem_setBit]
@[simp] theorem State.setQ_maskLevel (b : Bool) : (s.setQ b).maskLevel = s.maskLevel := by
  unfold State.maskLevel; congr 1; ext k hk; simp [getLsbD_setBit]; intro h; omega
@[simp] theorem State.setQ_blocked (b : Bool) : (s.setQ b).blocked = s.blocked := by simp [State.blocked, getElem_setBit]
@[simp] theorem State.setQ_rb (b : Bool) : (s.setQ b).rb = s.rb := by simp [State.rb, getElem_setBit]
@[simp] theorem State.setQ_privileged (b : Bool) : (s.setQ b).privileged = s.privileged := by simp [State.privileged, getElem_setBit]
@[simp] theorem State.setQ_frontIsBank1 (b : Bool) : (s.setQ b).frontIsBank1 = s.frontIsBank1 := by
  simp [State.frontIsBank1, State.privileged, State.rb, getElem_setBit]
@[simp] theorem State.setQ_inSlot (b : Bool) : (s.setQ b).inSlot = s.inSlot := rfl
@[simp] theorem State.setQ_reg (b : Bool) (r : Reg) : (s.setQ b).reg r = s.reg r := by
  unfold State.reg; rw [State.setQ_frontIsBank1]; simp
@[simp] theorem State.setQ_backReg (b : Bool) (c : BankReg) : (s.setQ b).backReg c = s.backReg c := by
  unfold State.backReg; rw [State.setQ_frontIsBank1]; simp
@[simp] theorem State.setQ_mac (b : Bool) : (s.setQ b).mac = s.mac := rfl

/-! ### State.setM -/

@[simp] theorem State.setM_flagT (b : Bool) : (s.setM b).flagT = s.flagT := by simp [State.flagT, getElem_setBit]
@[simp] theorem State.setM_flagS (b : Bool) : (s.setM b).flagS = s.flagS := by simp [State.flagS, getElem_setBit]
@[simp] theorem State.setM_flagQ (b : Bool) : (s.setM b).flagQ = s.flagQ := by simp [State.flagQ, getElem_setBit]
@[simp] theorem State.setM_flagM (b : Bool) : (s.setM b).flagM = b := by simp [State.flagM, getElem_setBit]
@[simp] theorem State.setM_maskLevel (b : Bool) : (s.setM b).maskLevel = s.maskLevel := by
  unfold State.maskLevel; congr 1; ext k hk; simp [getLsbD_setBit]; intro h; omega
@[simp] theorem State.setM_blocked (b : Bool) : (s.setM b).blocked = s.blocked := by simp [State.blocked, getElem_setBit]
@[simp] theorem State.setM_rb (b : Bool) : (s.setM b).rb = s.rb := by simp [State.rb, getElem_setBit]
@[simp] theorem State.setM_privileged (b : Bool) : (s.setM b).privileged = s.privileged := by simp [State.privileged, getElem_setBit]
@[simp] theorem State.setM_frontIsBank1 (b : Bool) : (s.setM b).frontIsBank1 = s.frontIsBank1 := by
  simp [State.frontIsBank1, State.privileged, State.rb, getElem_setBit]
@[simp] theorem State.setM_inSlot (b : Bool) : (s.setM b).inSlot = s.inSlot := rfl
@[simp] theorem State.setM_reg (b : Bool) (r : Reg) : (s.setM b).reg r = s.reg r := by
  unfold State.reg; rw [State.setM_frontIsBank1]; simp
@[simp] theorem State.setM_backReg (b : Bool) (c : BankReg) : (s.setM b).backReg c = s.backReg c := by
  unfold State.backReg; rw [State.setM_frontIsBank1]; simp
@[simp] theorem State.setM_mac (b : Bool) : (s.setM b).mac = s.mac := rfl

/-! ### A write of the whole SR -/

@[simp] theorem State.setSr_flagT (v : Word) : (s.setSr v).flagT = v.getLsbD 0 := by
  simp [State.flagT, getElem_srMask]
@[simp] theorem State.setSr_flagS (v : Word) : (s.setSr v).flagS = v.getLsbD 1 := by
  simp [State.flagS, getElem_srMask]
@[simp] theorem State.setSr_flagQ (v : Word) : (s.setSr v).flagQ = v.getLsbD 8 := by
  simp [State.flagQ, getElem_srMask]
@[simp] theorem State.setSr_flagM (v : Word) : (s.setSr v).flagM = v.getLsbD 9 := by
  simp [State.flagM, getElem_srMask]
@[simp] theorem State.setSr_blocked (v : Word) : (s.setSr v).blocked = v.getLsbD 28 := by
  simp [State.blocked, getElem_srMask]
@[simp] theorem State.setSr_rb (v : Word) : (s.setSr v).rb = v.getLsbD 29 := by
  simp [State.rb, getElem_srMask]
@[simp] theorem State.setSr_privileged (v : Word) : (s.setSr v).privileged = v.getLsbD 30 := by
  simp [State.privileged, getElem_srMask]
@[simp] theorem State.setSr_inSlot (v : Word) : (s.setSr v).inSlot = s.inSlot := rfl
@[simp] theorem State.setSr_mac (v : Word) : (s.setSr v).mac = s.mac := rfl
@[simp] theorem State.setSr_srWord (v : Word) : (s.setSr v).srWord = v &&& srMask := by
  simp [State.srWord, BitVec.and_assoc]

/-! ### General registers -/

/-- Registers depend only on the bank selection and the cells. -/
theorem State.reg_congr {s t : State} (hf : t.frontIsBank1 = s.frontIsBank1) (h0 : t.bank0 = s.bank0)
    (h1 : t.bank1 = s.bank1) (hh : t.high = s.high) (r : Reg) : t.reg r = s.reg r := by
  unfold State.reg; rw [hf]; simp only [h0, h1, hh]

theorem State.backReg_congr {s t : State} (hf : t.frontIsBank1 = s.frontIsBank1) (h0 : t.bank0 = s.bank0)
    (h1 : t.bank1 = s.bank1) (b : BankReg) : t.backReg b = s.backReg b := by
  unfold State.backReg; rw [hf]; simp only [h0, h1]

/-- A register read after a register write (R7, R24). -/
theorem State.reg_setReg (r q : Reg) (v : Word) : (s.setReg r v).reg q = if q = r then v else s.reg q := by
  unfold State.reg
  rw [State.setReg_frontIsBank1]
  unfold State.setReg
  by_cases hr : r.val < 8 <;> by_cases hq : q.val < 8 <;> by_cases hf : s.frontIsBank1 <;>
    simp only [hr, hq, hf, dite_true, dite_false, if_true, if_false, Bool.false_eq_true]
  all_goals first
    | (rw [Vector.getElem_set]; simp only [Fin.ext_iff]; congr 1; simp only [eq_iff_iff]; omega)
    | (have h : q ≠ r := fun h => by subst h; omega
       simp [h])

@[simp] theorem State.reg_setReg_same (r : Reg) (v : Word) : (s.setReg r v).reg r = v := by
  simp [State.reg_setReg]

@[simp] theorem State.backReg_setReg (r : Reg) (b : BankReg) (v : Word) : (s.setReg r v).backReg b = s.backReg b := by
  unfold State.backReg
  rw [State.setReg_frontIsBank1]
  unfold State.setReg
  by_cases hr : r.val < 8 <;> by_cases hf : s.frontIsBank1 <;> simp [hr, hf]

theorem State.backReg_setBackReg (b c : BankReg) (v : Word) :
    (s.setBackReg b v).backReg c = if c = b then v else s.backReg c := by
  unfold State.backReg
  rw [State.setBackReg_frontIsBank1]
  unfold State.setBackReg
  by_cases hf : s.frontIsBank1 <;> simp [hf, Vector.getElem_set, Fin.ext_iff, eq_comm]

@[simp] theorem State.reg_setBackReg (b : BankReg) (r : Reg) (v : Word) : (s.setBackReg b v).reg r = s.reg r := by
  unfold State.reg
  rw [State.setBackReg_frontIsBank1]
  unfold State.setBackReg
  by_cases hf : s.frontIsBank1 <;> simp [hf]

end Sys2Proof.Machine
end

