-- ==== Sys2Proof/Laws/Memory.lean ====
section
/-! SUPPORT. What the operations on bytes of memory can do: reads after writes, the canonical form, and what each load and
store answers. -/

namespace Sys2Proof.Machine

/-! ## One byte -/

theorem Memory.find_insert (m : Memory) (a x : Nat) (b : Byte) :
    (m.insert a b).find x = if x = a then some b else m.find x := by
  induction m with
  | nil => simp [Memory.insert, Memory.find, eq_comm]
  | cons c rest ih =>
    obtain ⟨y, c⟩ := c
    unfold Memory.insert
    split
    · by_cases h : x = a
      · simp [Memory.find, h]
      · simp [Memory.find, h, Ne.symm h]
    · split
      · subst_vars; by_cases h : x = y
        · simp [Memory.find, h]
        · simp [Memory.find, h, Ne.symm h]
      · simp only [Memory.find, ih]
        by_cases h : y = x
        · subst h; simp; intro h; omega
        · simp [h]

theorem Memory.write_eq_insert (m : Memory) (a : Nat) (b : Byte) : m.write a b = m.insert a b := by
  simp [Memory.write, Memory.unlisted]

theorem Memory.read_eq_find (m : Memory) (a : Nat) : m.read a = m.find a := by
  unfold Memory.read Memory.unlisted; cases m.find a <;> rfl

/-- A byte read after a byte written. -/
theorem Memory.read_write (m : Memory) (a x : Nat) (b : Byte) :
    (m.write a b).read x = if x = a then some b else m.read x := by
  simp only [Memory.read_eq_find, Memory.write_eq_insert, Memory.find_insert]

/-- A byte read after consecutive bytes written. -/
theorem Memory.read_writeBytes (l : List Byte) : ∀ (m : Memory) (a x : Nat),
    (m.writeBytes a l).read x = if a ≤ x ∧ x < a + l.length then l[x - a]? else m.read x := by
  induction l with
  | nil => intro m a x; simp [Memory.writeBytes]
  | cons b bs ih =>
    intro m a x
    rw [Memory.writeBytes, ih, Memory.read_write]
    simp only [List.length_cons]
    by_cases h : x = a
    · subst h; simp
    · by_cases h2 : a + 1 ≤ x ∧ x < a + 1 + bs.length
      · rw [if_pos h2, if_pos (by omega)]
        obtain ⟨k, rfl⟩ : ∃ k, x = a + 1 + k := ⟨x - (a + 1), by omega⟩
        rw [show a + 1 + k - a = k + 1 by omega, show a + 1 + k - (a + 1) = k by omega]; simp
      · rw [if_neg h2, if_neg h, if_neg (by omega)]

/-! ## The canonical form -/

theorem Memory.mem_insert {m : Memory} {a : Nat} {b : Byte} {c : Host.Cell} (h : c ∈ m.insert a b) :
    c = (a, b) ∨ c ∈ m := by
  induction m with
  | nil => simpa [Memory.insert] using h
  | cons d rest ih =>
    unfold Memory.insert at h
    split at h
    · simpa using h
    · split at h
      · simp only [List.mem_cons] at h ⊢; tauto
      · simp only [List.mem_cons] at h ⊢
        rcases h with h | h
        · tauto
        · rcases ih h with h | h <;> tauto

/-- The canonical form, said without recursion on booleans. -/
theorem Memory.wf_cons (a : Nat) (b : Byte) (rest : Memory) : Memory.wf ((a, b) :: rest) = true ↔
    a < Memory.size ∧ (∀ c ∈ rest, a < c.1) ∧ Memory.wf rest = true := by
  simp [Memory.wf, Memory.unlisted, and_assoc]

/-- A write below the size of memory keeps the canonical form. -/
theorem Memory.wf_write {m : Memory} (h : m.wf = true) {a : Nat} (ha : a < Memory.size) (b : Byte) :
    (m.write a b).wf = true := by
  rw [Memory.write_eq_insert]
  induction m with
  | nil => simp [Memory.insert, Memory.wf, ha, Memory.unlisted]
  | cons c rest ih =>
    obtain ⟨x, c⟩ := c
    obtain ⟨hx, hall, hrest⟩ := (Memory.wf_cons ..).1 h
    unfold Memory.insert
    split
    · rename_i hlt
      refine (Memory.wf_cons ..).2 ⟨ha, ?_, h⟩
      intro d hd
      rcases List.mem_cons.1 hd with rfl | hd
      · exact hlt
      · exact lt_trans hlt (hall d hd)
    · split
      · subst_vars; exact (Memory.wf_cons ..).2 ⟨ha, hall, hrest⟩
      · refine (Memory.wf_cons ..).2 ⟨hx, ?_, ih hrest⟩
        intro d hd
        rcases Memory.mem_insert hd with rfl | hd
        · simp only; omega
        · exact hall d hd

/-- Writes below the size of memory keep the canonical form. -/
theorem Memory.wf_writeBytes (l : List Byte) : ∀ {m : Memory}, m.wf = true → ∀ {a : Nat}, a + l.length ≤ Memory.size →
    (m.writeBytes a l).wf = true := by
  induction l with
  | nil => intro m h a _; exact h
  | cons b bs ih =>
    intro m h a ha
    simp only [List.length_cons] at ha
    exact ih (Memory.wf_write h (by omega) b) (by omega)

theorem reset_memory_wf : State.reset.mem.wf = true := rfl

/-! ## The record of stores -/

theorem mem_addAddress (l : List Nat) (a x : Nat) : x ∈ addAddress l a ↔ x ∈ l ∨ x = a := by
  induction l with
  | nil => simp [addAddress]
  | cons y rest ih =>
    unfold addAddress
    split
    · simp only [List.mem_cons]; tauto
    · split
      · subst_vars; simp only [List.mem_cons]; tauto
      · simp only [List.mem_cons, ih]; tauto

theorem mem_addAddresses (n : Nat) : ∀ (l : List Nat) (a x : Nat),
    x ∈ addAddresses l a n ↔ x ∈ l ∨ (a ≤ x ∧ x < a + n) := by
  induction n with
  | zero => intro l a x; simp [addAddresses]
  | succ n ih =>
    intro l a x
    rw [addAddresses, ih, mem_addAddress]
    constructor
    · rintro ((h | h) | h)
      · exact .inl h
      · exact .inr (by omega)
      · exact .inr (by omega)
    · rintro (h | h)
      · exact .inl (.inl h)
      · by_cases hx : x = a
        · exact .inl (.inr hx)
        · exact .inr (by omega)

theorem mem_span (p n a : Nat) : a ∈ span p n ↔ p ≤ a ∧ a < p + n := by
  simp only [span, List.mem_map, List.mem_range]
  constructor
  · rintro ⟨k, hk, rfl⟩; omega
  · intro h; exact ⟨a - p, by omega, by omega⟩

theorem addressesWf_cons (a : Nat) (rest : List Nat) : addressesWf (a :: rest) = true ↔
    a < Memory.size ∧ (∀ x ∈ rest, a < x) ∧ addressesWf rest = true := by
  simp [addressesWf, and_assoc]

theorem addressesWf_addAddress {l : List Nat} (h : addressesWf l = true) {a : Nat} (ha : a < Memory.size) :
    addressesWf (addAddress l a) = true := by
  induction l with
  | nil => simp [addAddress, addressesWf, ha]
  | cons x rest ih =>
    obtain ⟨hx, hall, hrest⟩ := (addressesWf_cons ..).1 h
    unfold addAddress
    split
    · rename_i hlt
      refine (addressesWf_cons ..).2 ⟨ha, ?_, h⟩
      intro d hd
      rcases List.mem_cons.1 hd with rfl | hd
      · exact hlt
      · exact lt_trans hlt (hall d hd)
    · split
      · exact h
      · refine (addressesWf_cons ..).2 ⟨hx, ?_, ih hrest⟩
        intro d hd
        rcases (mem_addAddress ..).1 hd with hd | rfl
        · exact hall d hd
        · omega

theorem addressesWf_addAddresses (n : Nat) : ∀ {l : List Nat}, addressesWf l = true → ∀ {a : Nat}, a + n ≤ Memory.size →
    addressesWf (addAddresses l a n) = true := by
  induction n with
  | zero => intro l h a _; exact h
  | succ n ih => intro l h a ha; exact ih (addressesWf_addAddress h (by omega)) (by omega)

theorem addressesWf_filter {l : List Nat} (h : addressesWf l = true) (p : Nat → Bool) :
    addressesWf (l.filter p) = true := by
  induction l with
  | nil => rfl
  | cons a rest ih =>
    obtain ⟨ha, hall, hrest⟩ := (addressesWf_cons ..).1 h
    rw [List.filter_cons]
    split
    · exact (addressesWf_cons ..).2 ⟨ha, fun x hx => hall x (List.mem_filter.1 hx).1, ih hrest⟩
    · exact ih hrest

/-! ## Byte order -/

theorem toNat_join2 (e : Endian) (b0 b1 : Byte) : (e.join2 b0 b1).toNat = bytesValue e [b0, b1] := by
  cases e
  · simp only [Endian.join2, bytesValue, List.foldl, BitVec.toNat_append, ← Nat.shiftLeft_add_eq_or_of_lt b1.isLt]; omega
  · simp only [Endian.join2, bytesValue, List.foldr, BitVec.toNat_append, ← Nat.shiftLeft_add_eq_or_of_lt b0.isLt]; omega

theorem toNat_append8 {w : Nat} (x : BitVec w) (b : Byte) : (x ++ b).toNat = 256 * x.toNat + b.toNat := by
  rw [BitVec.toNat_append, ← Nat.shiftLeft_add_eq_or_of_lt b.isLt]; omega

theorem toNat_join4 (e : Endian) (b0 b1 b2 b3 : Byte) : (e.join4 b0 b1 b2 b3).toNat = bytesValue e [b0, b1, b2, b3] := by
  cases e
  · simp only [Endian.join4, bytesValue, List.foldl, toNat_append8]; omega
  · simp only [Endian.join4, bytesValue, List.foldr, toNat_append8]; omega

theorem bytesValue_split2 (e : Endian) (v : Half) : bytesValue e (e.split2 v) = v.toNat := by
  cases e <;> simp only [Endian.split2, bytesValue, List.foldl, List.foldr, BitVec.extractLsb'_toNat] <;>
    simp only [Nat.shiftRight_eq_div_pow] <;> omega

theorem bytesValue_split4 (e : Endian) (v : Word) : bytesValue e (e.split4 v) = v.toNat := by
  cases e <;> simp only [Endian.split4, bytesValue, List.foldl, List.foldr, byteOf, BitVec.extractLsb'_toNat] <;>
    simp only [Nat.shiftRight_eq_div_pow] <;> omega

@[simp] theorem length_split2 (e : Endian) (v : Half) : (e.split2 v).length = 2 := by cases e <;> rfl

@[simp] theorem length_split4 (e : Endian) (v : Word) : (e.split4 v).length = 4 := by cases e <;> rfl

/-! ## Where an access goes -/

theorem physical_eq_place (a : Word) : physical a = place a := by
  unfold physical place
  rw [BitVec.toNat_and]
  exact Nat.and_two_pow_sub_one_eq_mod a.toNat 29

theorem place_lt (a : Word) : place a < Memory.size := Nat.mod_lt _ (by decide)

/-- An aligned access lies within memory. -/
theorem place_add_le (a : Word) (n : Nat) (hn : n = 1 ∨ n = 2 ∨ n = 4) (h : a.toNat % n = 0) :
    place a + n ≤ Memory.size := by
  have h2 : place a = a.toNat % 536870912 := rfl
  have h3 : Memory.size = 536870912 := rfl
  rcases hn with rfl | rfl | rfl <;> omega

theorem State.addressFails_iff (s : State) (n : Nat) (a : Word) : s.addressFails n a = true ↔ s.BadAddress n a := by
  simp [State.addressFails, State.BadAddress]

/-- The checks of R63 and R65 come first. -/
theorem State.locate_bad {s : State} {n : Nat} {a : Word} (h : s.BadAddress n a) (k : AccessKind) :
    s.locate k n a = .raises (.addressError k a) := by
  simp [State.locate, (s.addressFails_iff n a).2 h]

theorem State.locate_memory {s : State} {n : Nat} {a : Word} (h : s.MayAccess n a) (k : AccessKind) :
    s.locate k n a = .ok (.memory (place a)) := by
  have h1 : s.addressFails n a = false := by
    rw [← Bool.not_eq_true, s.addressFails_iff]; exact h.1
  simp [State.locate, h1, h.2, physical_eq_place]

theorem State.ReachesEvent.notBad {s : State} {a : Word} {r : EventReg} (h : s.ReachesEvent a r) :
    ¬ s.BadAddress 4 a := by
  obtain ⟨hp, h⟩ := h
  rintro (h2 | h2)
  · rcases h with ⟨-, rfl⟩ | ⟨-, rfl⟩ | ⟨-, rfl⟩ <;> simp at h2
  · simp [hp] at h2

theorem State.locate_event {s : State} {a : Word} {r : EventReg} (h : s.ReachesEvent a r) (k : AccessKind) :
    s.locate k 4 a = .ok (.event r) := by
  have h1 : s.addressFails 4 a = false := by
    rw [← Bool.not_eq_true, s.addressFails_iff]; exact h.notBad
  obtain ⟨-, h⟩ := h
  rcases h with ⟨rfl, rfl⟩ | ⟨rfl, rfl⟩ | ⟨rfl, rfl⟩ <;> (unfold State.locate; rw [h1]; rfl)

/-- Everything that finding the place of an access can answer. -/
theorem State.locate_cases (s : State) (k : AccessKind) (n : Nat) (a : Word) :
    (s.BadAddress n a ∧ s.locate k n a = .raises (.addressError k a)) ∨
    (s.MayAccess n a ∧ s.locate k n a = .ok (.memory (place a))) ∨
    (n = 4 ∧ ∃ r, s.ReachesEvent a r ∧ s.locate k n a = .ok (.event r)) ∨
    (¬ s.BadAddress n a ∧ 0xE0000000 ≤ a.toNat ∧ (n = 4 → ∀ r, ¬ s.ReachesEvent a r) ∧
      s.locate k n a = .refused (.p4Access a)) := by
  by_cases hb : s.BadAddress n a
  · exact .inl ⟨hb, State.locate_bad hb k⟩
  have h1 : s.addressFails n a = false := by
    rw [← Bool.not_eq_true, s.addressFails_iff]; exact hb
  by_cases hm : a.toNat < 0xE0000000
  · exact .inr (.inl ⟨⟨hb, hm⟩, State.locate_memory ⟨hb, hm⟩ k⟩)
  have hp : s.privileged = true := by
    by_contra hp
    exact hb (.inr ⟨by simpa using hp, by omega⟩)
  by_cases hn : n = 4
  · subst hn
    by_cases he : ∃ r, s.ReachesEvent a r
    · obtain ⟨r, hr⟩ := he
      exact .inr (.inr (.inl ⟨rfl, r, hr, State.locate_event hr k⟩))
    · refine .inr (.inr (.inr ⟨hb, by omega, fun _ r hr => he ⟨r, hr⟩, ?_⟩))
      have hnone : eventRegAt a = none := by
        unfold eventRegAt
        split
        · rename_i h; exact absurd ⟨.tra, hp, .inl ⟨rfl, h⟩⟩ he
        split
        · rename_i h; exact absurd ⟨.expevt, hp, .inr (.inl ⟨rfl, h⟩)⟩ he
        split
        · rename_i h; exact absurd ⟨.intevt, hp, .inr (.inr ⟨rfl, h⟩)⟩ he
        rfl
      simp [State.locate, h1, hm, hnone]
  · refine .inr (.inr (.inr ⟨hb, by omega, fun h => absurd h hn, ?_⟩))
    simp [State.locate, h1, hm, hn]

/-! ## Loads -/

/-- A shared location reads as the oracle says (R69). -/
theorem State.readByte_shared {s : State} {a : Nat} (h : a ∈ s.shared) :
    s.readByte a = some (Config.oracle s.oracleCount a) := by
  simp [State.readByte, h]

/-- Any other location reads as memory holds it (R69). -/
theorem State.readByte_own {s : State} {a : Nat} (h : a ∉ s.shared) : s.readByte a = s.mem.read a := by
  simp [State.readByte, h]

/-- Everything that reading a byte depends on. -/
theorem State.readByte_congr {s t : State} {a : Nat} (hs : t.shared = s.shared) (ho : t.oracleCount = s.oracleCount)
    (hm : t.mem.read a = s.mem.read a) : t.readByte a = s.readByte a := by
  simp [State.readByte, hs, ho, hm]

/-- A byte has no value exactly where memory has none and no other agent gives one. -/
theorem State.readByte_eq_none (s : State) (a : Nat) : s.readByte a = none ↔ s.mem.read a = none ∧ a ∉ s.shared := by
  unfold State.readByte
  split <;> simp_all

theorem State.byteAt_some {s : State} {a : Nat} {b : Byte} (h : s.readByte a = some b) : s.byteAt a = .ok b := by
  simp [State.byteAt, h]

theorem State.byteAt_none {s : State} {a : Nat} (h : s.readByte a = none) : s.byteAt a = .fault (.unwrittenMemory a) := by
  simp [State.byteAt, h]

/-- Text is neither stored to nor shared (R71). -/
theorem State.isText_iff (s : State) (a : Nat) : s.isText a = true ↔ a ∉ s.storedTo ∧ a ∉ s.shared := by
  simp [State.isText]

theorem State.loadByte_bad {s : State} {a : Word} (h : s.BadAddress 1 a) (k : AccessKind) :
    s.loadByte k a = .raises (.addressError k a) := by
  simp [State.loadByte, State.locate_bad h, Access.bind]

theorem State.loadWord_bad {s : State} {a : Word} (h : s.BadAddress 2 a) (k : AccessKind) :
    s.loadWord k a = .raises (.addressError k a) := by
  simp [State.loadWord, State.locate_bad h, Access.bind]

theorem State.loadLong_bad {s : State} {a : Word} (h : s.BadAddress 4 a) (k : AccessKind) :
    s.loadLong k a = .raises (.addressError k a) := by
  simp [State.loadLong, State.locate_bad h, Access.bind]

theorem State.loadByte_readable {s : State} {a : Word} {v : Nat} (h : s.Readable 1 a v) (k : AccessKind) :
    s.loadByte k a = .ok (BitVec.ofNat 8 v) := by
  rcases h with ⟨hm, bytes, hl, hv, hr⟩ | ⟨h, -⟩
  · match bytes, hl with
    | [b], _ =>
      have h0 := hr 0 (by simp)
      simp only [Nat.add_zero, List.getElem_cons_zero] at h0
      simp only [State.loadByte, State.locate_memory hm, Access.bind, State.byteAt_some h0]
      congr 1
      apply BitVec.eq_of_toNat_eq
      subst hv
      cases s.endian <;> simp [bytesValue]
  · omega

theorem State.loadWord_readable {s : State} {a : Word} {v : Nat} (h : s.Readable 2 a v) (k : AccessKind) :
    s.loadWord k a = .ok (BitVec.ofNat 16 v) := by
  rcases h with ⟨hm, bytes, hl, hv, hr⟩ | ⟨h, -⟩
  · match bytes, hl with
    | [b0, b1], _ =>
      have h0 := hr 0 (by simp)
      have h1 := hr 1 (by simp)
      simp only [Nat.add_zero, List.getElem_cons_zero, List.getElem_cons_succ] at h0 h1
      simp only [State.loadWord, State.locate_memory hm, Access.bind, State.byteAt_some h0, State.byteAt_some h1]
      congr 1
      rw [← hv, ← toNat_join2, BitVec.ofNat_toNat]; simp
  · omega

theorem State.loadLong_readable {s : State} {a : Word} {v : Nat} (h : s.Readable 4 a v) (k : AccessKind) :
    s.loadLong k a = .ok (BitVec.ofNat 32 v) := by
  rcases h with ⟨hm, bytes, hl, hv, hr⟩ | ⟨-, r, hr, hv⟩
  · match bytes, hl with
    | [b0, b1, b2, b3], _ =>
      have h0 := hr 0 (by simp)
      have h1 := hr 1 (by simp)
      have h2 := hr 2 (by simp)
      have h3 := hr 3 (by simp)
      simp only [Nat.add_zero, List.getElem_cons_zero, List.getElem_cons_succ] at h0 h1 h2 h3
      simp only [State.loadLong, State.locate_memory hm, Access.bind, State.byteAt_some h0, State.byteAt_some h1,
        State.byteAt_some h2, State.byteAt_some h3]
      congr 1
      rw [← hv, ← toNat_join4, BitVec.ofNat_toNat]; simp
  · simp only [State.loadLong, State.locate_event hr, Access.bind]
    congr 1
    rw [hv, BitVec.ofNat_toNat]; simp

/-! ## Stores -/

theorem State.storeByte_bad {s : State} {a : Word} (h : s.BadAddress 1 a) (v : Byte) :
    s.storeByte a v = .raises (.addressError .write a) := by
  simp [State.storeByte, State.locate_bad h, Access.bind]

theorem State.storeWord_bad {s : State} {a : Word} (h : s.BadAddress 2 a) (v : Half) :
    s.storeWord a v = .raises (.addressError .write a) := by
  simp [State.storeWord, State.locate_bad h, Access.bind]

theorem State.storeLong_bad {s : State} {a : Word} (h : s.BadAddress 4 a) (v : Word) :
    s.storeLong a v = .raises (.addressError .write a) := by
  simp [State.storeLong, State.locate_bad h, Access.bind]

theorem State.storeByte_memory {s : State} {a : Word} (h : s.MayAccess 1 a) (v : Byte) :
    s.storeByte a v = .ok (s.storeBytes (place a) [v]) := by
  simp [State.storeByte, State.locate_memory h, Access.bind]

theorem State.storeWord_memory {s : State} {a : Word} (h : s.MayAccess 2 a) (v : Half) :
    s.storeWord a v = .ok (s.storeBytes (place a) (s.endian.split2 v)) := by
  simp [State.storeWord, State.locate_memory h, Access.bind]

theorem State.storeLong_memory {s : State} {a : Word} (h : s.MayAccess 4 a) (v : Word) :
    s.storeLong a v = .ok (s.storeBytes (place a) (s.endian.split4 v)) := by
  simp [State.storeLong, State.locate_memory h, Access.bind]

theorem State.storeLong_event {s : State} {a : Word} {r : EventReg} (h : s.ReachesEvent a r) (v : Word) :
    s.storeLong a v = .ok (s.setEventReg r v) := by
  simp [State.storeLong, State.locate_event h, Access.bind]

/-- What a store leaves at its place. -/
theorem State.holds_storeBytes (s : State) (p : Nat) (l : List Byte) :
    (s.storeBytes p l).Holds l.length p (bytesValue s.endian l) := by
  refine ⟨l, rfl, by simp, fun k h => ?_⟩
  rw [State.storeBytes_mem, Memory.read_writeBytes, if_pos (by omega), Nat.add_sub_cancel_left]
  exact List.getElem?_eq_getElem h

/-- What memory holds is what a load sees, where nothing is shared (R69). -/
theorem State.Holds.gives {s : State} {n p v : Nat} (h : s.Holds n p v) (hs : ∀ x ∈ span p n, x ∉ s.shared) :
    s.Gives n p v := by
  obtain ⟨bytes, hl, hv, hr⟩ := h
  refine ⟨bytes, hl, hv, fun k hk => ?_⟩
  rw [State.readByte_own (hs _ ((mem_span ..).2 ⟨by omega, by omega⟩))]
  exact hr k hk

/-- Everything that what a load sees depends on. -/
theorem State.Gives.congr {s t : State} {n p v : Nat} (h : s.Gives n p v) (he : t.endian = s.endian)
    (hr : ∀ x ∈ span p n, t.readByte x = s.readByte x) : t.Gives n p v := by
  obtain ⟨bytes, hl, hv, hb⟩ := h
  refine ⟨bytes, hl, by rw [he]; exact hv, fun k hk => ?_⟩
  rw [hr _ ((mem_span ..).2 ⟨by omega, by omega⟩)]
  exact hb k hk

/-- Everything that a readable operand depends on. -/
theorem State.Readable.congr {s t : State} {n v : Nat} {ea : Word} (h : s.Readable n ea v) (he : t.endian = s.endian)
    (hp : t.privileged = s.privileged) (hr : ∀ x ∈ span (place ea) n, t.readByte x = s.readByte x)
    (hv : ∀ r, t.eventReg r = s.eventReg r) : t.Readable n ea v := by
  rcases h with ⟨hm, hg⟩ | ⟨hn, r, hr', hv'⟩
  · exact .inl ⟨by simpa only [State.MayAccess, State.BadAddress, hp] using hm, hg.congr he hr⟩
  · exact .inr ⟨hn, r, by simpa only [State.ReachesEvent, hp] using hr', by rw [hv]; exact hv'⟩

theorem State.Holds.congr {s t : State} (he : t.endian = s.endian) (hm : t.mem = s.mem) {n p v : Nat}
    (h : s.Holds n p v) : t.Holds n p v := by
  obtain ⟨bytes, hl, hv, hr⟩ := h
  exact ⟨bytes, hl, by rw [he]; exact hv, fun k hk => by rw [hm]; exact hr k hk⟩

end Sys2Proof.Machine
end

