-- ==== Sys2Proof/Laws/Frames.lean ====
section
/-! SUPPORT. What each named update leaves alone, and when an instruction built from the shared operations completes or
raises. The statements about instructions cite these and unfold no operation. -/

namespace Sys2Proof.Machine

variable {s t u : State}

/-! ## The registers that Part names -/

theorem State.part_setGbr (s : State) (v : Word) (p : Part) : (s.setGbr v).part p = if p = .gbr then v else s.part p := by
  cases p <;> simp [State.part]

theorem State.part_setVbr (s : State) (v : Word) (p : Part) : (s.setVbr v).part p = if p = .vbr then v else s.part p := by
  cases p <;> simp [State.part]

theorem State.part_setSsr (s : State) (v : Word) (p : Part) : (s.setSsr v).part p = if p = .ssr then v else s.part p := by
  cases p <;> simp [State.part]

theorem State.part_setSpc (s : State) (v : Word) (p : Part) : (s.setSpc v).part p = if p = .spc then v else s.part p := by
  cases p <;> simp [State.part]

theorem State.part_setMach (s : State) (v : Word) (p : Part) : (s.setMach v).part p = if p = .mach then v else s.part p := by
  cases p <;> simp [State.part]

theorem State.part_setMacl (s : State) (v : Word) (p : Part) : (s.setMacl v).part p = if p = .macl then v else s.part p := by
  cases p <;> simp [State.part]

theorem State.part_setPr (s : State) (v : Word) (p : Part) : (s.setPr v).part p = if p = .pr then v else s.part p := by
  cases p <;> simp [State.part]

theorem State.part_setBackReg (s : State) (b : BankReg) (v : Word) (p : Part) :
    (s.setBackReg b v).part p = if p = .back b then v else s.part p := by
  cases p <;> simp [State.part, State.backReg_setBackReg]

theorem State.part_setMac (s : State) (v : BitVec 64) (p : Part) :
    (s.setMac v).part p = if p = .mach then v.extractLsb' 32 32 else if p = .macl then v.extractLsb' 0 32 else s.part p := by
  cases p <;> simp [State.part]

/-- MAC after a write of MAC (R42). -/
@[simp] theorem State.mac_setMac (s : State) (v : BitVec 64) : (s.setMac v).mac = v := by
  apply BitVec.eq_of_toNat_eq
  simp only [State.mac, State.setMac, BitVec.toNat_append, BitVec.extractLsb'_toNat]
  rw [← Nat.shiftLeft_add_eq_or_of_lt (by omega)]
  simp only [Nat.shiftLeft_eq, Nat.shiftRight_eq_div_pow]
  have := v.isLt
  omega

/-- An event register after a write of one. -/
theorem State.eventReg_setEventReg (s : State) (r q : EventReg) (v : Word) :
    (s.setEventReg r v).eventReg q = if q = r then v &&& r.mask else s.eventReg q := by
  cases r <;> cases q <;> rfl

/-- A write of a general register changes no byte that a load sees. -/
@[simp] theorem State.readByte_setReg (s : State) (n : Reg) (v : Word) (a : Nat) :
    (s.setReg n v).readByte a = s.readByte a := State.readByte_congr (by simp) (by simp) (by simp)

/-! ## Kept -/

theorem Kept.refl (s : State) : Kept [] [] [] [] s s :=
  ⟨fun _ _ => rfl, fun _ _ => rfl, fun _ _ => rfl, fun _ _ => rfl, fun _ => by simp, rfl, rfl, rfl, rfl, rfl, rfl, rfl, le_refl _⟩

/-- Frames compose. -/
theorem Kept.trans {r r' : List Reg} {k k' : List Nat} {p p' : List Part} {b b' : List Nat}
    (h : Kept r k p b s t) (h' : Kept r' k' p' b' t u) : Kept (r ++ r') (k ++ k') (p ++ p') (b ++ b') s u where
  reg q hq := by
    rw [List.mem_append, not_or] at hq; rw [h'.reg q hq.2, h.reg q hq.1]
  srBit q hq := by
    rw [List.mem_append, not_or] at hq; rw [h'.srBit q hq.2, h.srBit q hq.1]
  part q hq := by
    rw [List.mem_append, not_or] at hq; rw [h'.part q hq.2, h.part q hq.1]
  byte q hq := by
    rw [List.mem_append, not_or] at hq; rw [h'.byte q hq.2, h.byte q hq.1]
  storedTo q := by rw [h'.storedTo, h.storedTo, List.mem_append, or_assoc]
  asleep := h'.asleep.trans h.asleep
  resetPin := h'.resetPin.trans h.resetPin
  nmi := h'.nmi.trans h.nmi
  level := h'.level.trans h.level
  endian := h'.endian.trans h.endian
  shared := h'.shared.trans h.shared
  freeCount := h'.freeCount.trans h.freeCount
  oracleCount := h.oracleCount.trans h'.oracleCount

theorem Kept.setReg (s : State) (n : Reg) (v : Word) : Kept [n] [] [] [] s (s.setReg n v) where
  reg r hr := by rw [State.reg_setReg, if_neg (by simpa using hr)]
  srBit k _ := by simp
  part p _ := by cases p <;> simp [State.part]
  byte a _ := by simp
  storedTo a := by simp
  asleep := by simp
  resetPin := by simp
  nmi := by simp
  level := by simp
  endian := by simp
  shared := by simp
  freeCount := by simp
  oracleCount := by simp

theorem Kept.nextAnswers (s : State) : Kept [] [] [] [] s s.nextAnswers where
  reg r _ := by simp
  srBit k _ := by simp
  part p _ := by cases p <;> simp [State.part]
  byte a _ := by simp
  storedTo a := by simp
  asleep := by simp
  resetPin := by simp
  nmi := by simp
  level := by simp
  endian := by simp
  shared := by simp
  freeCount := by simp
  oracleCount := by simp

theorem Kept.setBackReg (s : State) (b : BankReg) (v : Word) : Kept [] [] [.back b] [] s (s.setBackReg b v) where
  reg r _ := by simp
  srBit k _ := by simp
  part p hp := by rw [State.part_setBackReg, if_neg (by simpa using hp)]
  byte a _ := by simp
  storedTo a := by simp
  asleep := by simp
  resetPin := by simp
  nmi := by simp
  level := by simp
  endian := by simp
  shared := by simp
  freeCount := by simp
  oracleCount := by simp

theorem Kept.advance (s : State) : Kept [] [] [] [] s s.advance where
  reg r _ := by simp
  srBit k _ := by simp
  part p _ := by cases p <;> simp [State.part]
  byte a _ := by simp
  storedTo a := by simp
  asleep := by simp
  resetPin := by simp
  nmi := by simp
  level := by simp
  endian := by simp
  shared := by simp
  freeCount := by simp
  oracleCount := by simp

theorem Kept.storeBytes (s : State) (a : Nat) (l : List Byte) :
    Kept [] [] [] (span a l.length) s (s.storeBytes a l) where
  reg r _ := by simp
  srBit k _ := by simp
  part p _ := by cases p <;> simp [State.part]
  byte x hx := by
    rw [mem_span] at hx; rw [State.storeBytes_mem, Memory.read_writeBytes, if_neg hx]
  storedTo x := by rw [State.storeBytes_storedTo, mem_addAddresses, mem_span]
  asleep := by simp
  resetPin := by simp
  nmi := by simp
  level := by simp
  endian := by simp
  shared := by simp
  freeCount := by simp
  oracleCount := by simp

theorem Kept.setMac (s : State) (v : BitVec 64) : Kept [] [] [.mach, .macl] [] s (s.setMac v) where
  reg r _ := by simp
  srBit k _ := by simp
  part p hp := by simp only [List.mem_cons, not_or] at hp; simp [State.part_setMac, hp]
  byte a _ := by simp
  storedTo a := by simp
  asleep := by simp
  resetPin := by simp
  nmi := by simp
  level := by simp
  endian := by simp
  shared := by simp
  freeCount := by simp
  oracleCount := by simp

theorem Kept.setEventReg (s : State) (r : EventReg) (v : Word) :
    Kept [] [] [r.part] [] s (s.setEventReg r v) where
  reg r _ := by simp
  srBit k _ := by simp
  part p hp := by cases r <;> cases p <;> simp_all [State.part, EventReg.part]
  byte a _ := by simp
  storedTo a := by simp
  asleep := by simp
  resetPin := by simp
  nmi := by simp
  level := by simp
  endian := by simp
  shared := by simp
  freeCount := by simp
  oracleCount := by simp

theorem Kept.setGbr (s : State) (v : Word) : Kept [] [] [.gbr] [] s (s.setGbr v) where
  reg r _ := by simp
  srBit k _ := by simp
  part p hp := by rw [State.part_setGbr, if_neg (by simpa using hp)]
  byte a _ := by simp
  storedTo a := by simp
  asleep := by simp
  resetPin := by simp
  nmi := by simp
  level := by simp
  endian := by simp
  shared := by simp
  freeCount := by simp
  oracleCount := by simp

theorem Kept.setVbr (s : State) (v : Word) : Kept [] [] [.vbr] [] s (s.setVbr v) where
  reg r _ := by simp
  srBit k _ := by simp
  part p hp := by rw [State.part_setVbr, if_neg (by simpa using hp)]
  byte a _ := by simp
  storedTo a := by simp
  asleep := by simp
  resetPin := by simp
  nmi := by simp
  level := by simp
  endian := by simp
  shared := by simp
  freeCount := by simp
  oracleCount := by simp

theorem Kept.setSsr (s : State) (v : Word) : Kept [] [] [.ssr] [] s (s.setSsr v) where
  reg r _ := by simp
  srBit k _ := by simp
  part p hp := by rw [State.part_setSsr, if_neg (by simpa using hp)]
  byte a _ := by simp
  storedTo a := by simp
  asleep := by simp
  resetPin := by simp
  nmi := by simp
  level := by simp
  endian := by simp
  shared := by simp
  freeCount := by simp
  oracleCount := by simp

theorem Kept.setSpc (s : State) (v : Word) : Kept [] [] [.spc] [] s (s.setSpc v) where
  reg r _ := by simp
  srBit k _ := by simp
  part p hp := by rw [State.part_setSpc, if_neg (by simpa using hp)]
  byte a _ := by simp
  storedTo a := by simp
  asleep := by simp
  resetPin := by simp
  nmi := by simp
  level := by simp
  endian := by simp
  shared := by simp
  freeCount := by simp
  oracleCount := by simp

theorem Kept.setMach (s : State) (v : Word) : Kept [] [] [.mach] [] s (s.setMach v) where
  reg r _ := by simp
  srBit k _ := by simp
  part p hp := by rw [State.part_setMach, if_neg (by simpa using hp)]
  byte a _ := by simp
  storedTo a := by simp
  asleep := by simp
  resetPin := by simp
  nmi := by simp
  level := by simp
  endian := by simp
  shared := by simp
  freeCount := by simp
  oracleCount := by simp

theorem Kept.setMacl (s : State) (v : Word) : Kept [] [] [.macl] [] s (s.setMacl v) where
  reg r _ := by simp
  srBit k _ := by simp
  part p hp := by rw [State.part_setMacl, if_neg (by simpa using hp)]
  byte a _ := by simp
  storedTo a := by simp
  asleep := by simp
  resetPin := by simp
  nmi := by simp
  level := by simp
  endian := by simp
  shared := by simp
  freeCount := by simp
  oracleCount := by simp

theorem Kept.setPr (s : State) (v : Word) : Kept [] [] [.pr] [] s (s.setPr v) where
  reg r _ := by simp
  srBit k _ := by simp
  part p hp := by rw [State.part_setPr, if_neg (by simpa using hp)]
  byte a _ := by simp
  storedTo a := by simp
  asleep := by simp
  resetPin := by simp
  nmi := by simp
  level := by simp
  endian := by simp
  shared := by simp
  freeCount := by simp
  oracleCount := by simp

theorem Kept.setT (s : State) (b : Bool) : Kept [] [0] [] [] s (s.setT b) where
  reg r _ := by simp
  srBit j hj := by rw [State.setT_sr, getLsbD_setBit _ _ _ _ (by decide), if_neg (by simpa using hj)]
  part p _ := by cases p <;> simp [State.part]
  byte a _ := by simp
  storedTo a := by simp
  asleep := by simp
  resetPin := by simp
  nmi := by simp
  level := by simp
  endian := by simp
  shared := by simp
  freeCount := by simp
  oracleCount := by simp

theorem Kept.setS (s : State) (b : Bool) : Kept [] [1] [] [] s (s.setS b) where
  reg r _ := by simp
  srBit j hj := by rw [State.setS_sr, getLsbD_setBit _ _ _ _ (by decide), if_neg (by simpa using hj)]
  part p _ := by cases p <;> simp [State.part]
  byte a _ := by simp
  storedTo a := by simp
  asleep := by simp
  resetPin := by simp
  nmi := by simp
  level := by simp
  endian := by simp
  shared := by simp
  freeCount := by simp
  oracleCount := by simp

theorem Kept.setQ (s : State) (b : Bool) : Kept [] [8] [] [] s (s.setQ b) where
  reg r _ := by simp
  srBit j hj := by rw [State.setQ_sr, getLsbD_setBit _ _ _ _ (by decide), if_neg (by simpa using hj)]
  part p _ := by cases p <;> simp [State.part]
  byte a _ := by simp
  storedTo a := by simp
  asleep := by simp
  resetPin := by simp
  nmi := by simp
  level := by simp
  endian := by simp
  shared := by simp
  freeCount := by simp
  oracleCount := by simp

theorem Kept.setM (s : State) (b : Bool) : Kept [] [9] [] [] s (s.setM b) where
  reg r _ := by simp
  srBit j hj := by rw [State.setM_sr, getLsbD_setBit _ _ _ _ (by decide), if_neg (by simpa using hj)]
  part p _ := by cases p <;> simp [State.part]
  byte a _ := by simp
  storedTo a := by simp
  asleep := by simp
  resetPin := by simp
  nmi := by simp
  level := by simp
  endian := by simp
  shared := by simp
  freeCount := by simp
  oracleCount := by simp

/-! ## Completion -/

/-- An instruction that answers `u.done` completes: the frame and the facts of u carry over. -/
theorem finishes_done {i : Instr} {r : List Reg} {k : List Nat} {p : List Part} {b : List Nat} {post : State → Prop}
    (h : exec i s = u.done) (hk : Kept r k p b s u) (hpc : u.pc = s.pc) (hs : u.slot = s.slot)
    (hp : post u.advance) : Finishes i s r k p b post := by
  refine ⟨u.advance, h, hp, ?_, ?_, State.advance_slot u, by rw [State.advance_oracleCount]; exact Nat.lt_succ_of_le hk.oracleCount⟩
  · simpa only [List.append_nil] using hk.trans (Kept.advance u)
  · rw [State.advance_pc, hs, hpc]

@[simp] theorem Access.run_ok {α : Type} (v : α) (s : State) (k : α → Result) : (Access.ok v).run s k = k v := rfl

@[simp] theorem Access.run_raises {α : Type} (e : Exc) (s : State) (k : α → Result) :
    (Access.raises e).run s k = .next (s.takeExc e) := rfl

@[simp] theorem Access.run_fault {α : Type} (f : Fault) (s : State) (k : α → Result) :
    (Access.fault f).run s k = .fault f := rfl

@[simp] theorem Access.run_refused {α : Type} (x : Refusal) (s : State) (k : α → Result) :
    (Access.refused x).run s k = .refused x := rfl

@[simp] theorem Access.map_ok {α β : Type} (f : α → β) (v : α) : (Access.ok v).map f = .ok (f v) := rfl

@[simp] theorem Access.map_raises {α β : Type} (f : α → β) (e : Exc) : (Access.raises e : Access α).map f = .raises e := rfl

/-- If the rest of an access answers a next state, either the access gave a value or its exception was taken. -/
theorem Access.run_cases {α : Type} {r : Access α} {k : α → Result} (h : r.run s k = .next t) :
    (∃ v, r = .ok v ∧ k v = .next t) ∨ (∃ e, r = .raises e ∧ t = s.takeExc e) := by
  cases r with
  | ok v => exact .inl ⟨v, rfl, h⟩
  | raises e => exact .inr ⟨e, rfl, by injection h with h; exact h.symm⟩
  | fault f => cases h
  | refused x => cases h

/-- A privileged instruction in privileged mode is the rest of its meaning. -/
theorem State.ifPrivileged_true (h : s.privileged = true) (r : Result) : s.ifPrivileged r = r := by
  simp [State.ifPrivileged, h]

/-- A privileged instruction in user mode raises (R280). -/
theorem State.ifPrivileged_false (h : s.privileged = false) (r : Result) :
    s.ifPrivileged r = .next (s.takeExc s.illegalExc) := by
  simp [State.ifPrivileged, h, State.raise]

theorem State.notInSlot_none (h : s.slot = none) (r : Result) : s.notInSlot r = r := by
  simp [State.notInSlot, State.inSlot, h]

/-- An instruction that may not stand in a slot raises there (R262). -/
theorem State.notInSlot_some {x : Word} (h : s.slot = some x) (r : Result) :
    s.notInSlot r = .next (s.takeExc .illegalSlot) := by
  simp [State.notInSlot, State.inSlot, h, State.raise]

theorem State.pcRelative_none (h : s.slot = none) (r : Result) : s.pcRelative r = r := by
  simp [State.pcRelative, State.inSlot, h]

/-- A PC-relative operand in a slot is refused (R427, D10). -/
theorem State.pcRelative_some {x : Word} (h : s.slot = some x) (r : Result) :
    s.pcRelative r = .refused (.slotPcRelative s.pc) := by
  simp [State.pcRelative, State.inSlot, h]

/-- Two different registers go on. -/
theorem distinctRegs_ne {m n : Reg} (h : m ≠ n) (r : Result) : distinctRegs m n r = r := if_neg h

/-- One register for two is refused (D22). -/
theorem distinctRegs_same (n : Reg) (r : Result) : distinctRegs n n r = .refused (.sameRegister n) := if_pos rfl

/-! ## Operand forms -/

/-- A load into Rn. -/
theorem finishes_loadInto {i : Instr} {a : Access Word} {n : Reg} {v : Word} (h : exec i s = s.loadInto a n)
    (ha : a = .ok v) : Finishes i s [n] [] [] [] fun t => t.reg n = v := by
  subst ha
  exact finishes_done (u := s.setReg n v) (by rw [h]; rfl) (Kept.setReg s n v) (by simp) (by simp) (by simp)

/-- A load through Rm with post-increment (R134). -/
theorem finishes_loadIntoInc {i : Instr} {a : Access Word} {m n : Reg} {v size : Word}
    (h : exec i s = s.loadIntoInc a m n size) (ha : a = .ok v) :
    Finishes i s [m, n] [] [] [] fun t => t.reg n = v ∧ (m ≠ n → t.reg m = s.reg m + size) := by
  subst ha
  refine finishes_done (u := (s.setReg m (s.reg m + size)).setReg n v) (by rw [h]; rfl)
    ((Kept.setReg ..).trans (Kept.setReg ..)) (by simp) (by simp) ⟨by simp, fun hmn => ?_⟩
  simp [State.reg_setReg, hmn]

/-- A store of bytes. -/
theorem finishes_storeDone {i : Instr} {a : Access State} {p : Nat} {l : List Byte} (h : exec i s = s.storeDone a)
    (ha : a = .ok (s.storeBytes p l)) :
    Finishes i s [] [] [] (span p l.length) fun t => t.Holds l.length p (bytesValue s.endian l) := by
  subst ha
  exact finishes_done (u := s.storeBytes p l) (by rw [h]; rfl) (Kept.storeBytes s p l) (by simp) (by simp)
    ((s.holds_storeBytes p l).congr (by simp) (by simp))

/-- A store of bytes with pre-decrement (R131). -/
theorem finishes_storeDec {i : Instr} {a : Access State} {n : Reg} {ea : Word} {p : Nat} {l : List Byte}
    (h : exec i s = s.storeDec a n ea) (ha : a = .ok (s.storeBytes p l)) :
    Finishes i s [n] [] [] (span p l.length) fun t =>
      t.Holds l.length p (bytesValue s.endian l) ∧ t.reg n = ea := by
  subst ha
  refine finishes_done (u := (s.storeBytes p l).setReg n ea) (by rw [h]; rfl) ?_ (by simp) (by simp)
    ⟨(s.holds_storeBytes p l).congr (by simp) (by simp), by simp⟩
  simpa only [List.append_nil, List.nil_append] using (Kept.storeBytes s p l).trans (Kept.setReg _ n ea)

/-- A longword store to an event register (R374). -/
theorem storesEvent_storeDone {i : Instr} {ea v : Word} (h : exec i s = s.storeDone (s.storeLong ea v)) :
    StoresEvent i s ea v [] fun _ => True := by
  intro r hr
  refine finishes_done (u := s.setEventReg r v) (by rw [h, State.storeLong_event hr]; rfl) (Kept.setEventReg s r v) (by simp)
    (by simp) ⟨?_, trivial⟩
  cases r <;> simp [State.eventReg, EventReg.mask, EventReg.layout]

/-- A longword store with pre-decrement to an event register (R131, R374). -/
theorem storesEvent_storeDec {i : Instr} {n : Reg} {ea v : Word} (h : exec i s = s.storeDec (s.storeLong ea v) n ea) :
    StoresEvent i s ea v [n] fun t => t.reg n = ea := by
  intro r hr
  refine finishes_done (u := (s.setEventReg r v).setReg n ea) (by rw [h, State.storeLong_event hr]; rfl) ?_ (by simp)
    (by simp) ⟨?_, by simp⟩
  · simpa only [List.append_nil, List.nil_append] using (Kept.setEventReg s r v).trans (Kept.setReg _ n ea)
  · cases r <;> simp [State.eventReg, EventReg.mask, EventReg.layout]

/-- A longword load with post-increment into a register that is no general register (R328 (d)). -/
theorem finishes_popLong {i : Instr} {m : Reg} {rest : State → Word → State} {parts : List Part} {v : Nat}
    (h : exec i s = s.popLong m rest) (hv : s.Readable 4 (s.reg m) v)
    (hk : ∀ u x, Kept [] [] parts [] u (rest u x)) (hpc : ∀ u x, (rest u x).pc = u.pc)
    (hslot : ∀ u x, (rest u x).slot = u.slot) {post : State → Prop}
    (hp : post (rest (s.setReg m (s.reg m + 4)) (BitVec.ofNat 32 v)).advance) :
    Finishes i s [m] [] parts [] post := by
  refine finishes_done (u := rest (s.setReg m (s.reg m + 4)) (BitVec.ofNat 32 v)) ?_
    ((Kept.setReg s m _).trans (hk _ _)) (by rw [hpc]; simp) (by rw [hslot]; simp) hp
  rw [h, State.popLong, State.loadLong_readable hv]; rfl

/-- A longword store with pre-decrement (R328 (d)). -/
theorem finishes_pushLong {i : Instr} {n : Reg} {v : Word} (h : exec i s = s.pushLong n v)
    (hm : s.MayAccess 4 (s.reg n - 4)) :
    Finishes i s [n] [] [] (span (place (s.reg n - 4)) 4) fun t =>
      t.Holds 4 (place (s.reg n - 4)) v.toNat ∧ t.reg n = s.reg n - 4 := by
  have h2 := finishes_storeDec (i := i) (s := s) (n := n) (ea := s.reg n - 4) (p := place (s.reg n - 4))
    (l := s.endian.split4 v) (by rw [h]; rfl) (State.storeLong_memory hm v)
  simpa only [length_split4, bytesValue_split4] using h2

end Sys2Proof.Machine
end

