-- ==== Sys2Proof/Laws/Steps.lean ====
section
/-! SUPPORT. Where an access stops, what the two shared operations that make several accesses answer, and what a step does
before it executes an instruction. -/

namespace Sys2Proof.Machine

variable {s t : State}

/-! ## Accesses that stop -/

/-- An access to P4 that reaches no event register is refused (R72). -/
theorem State.locate_p4 {n : Nat} {a : Word} (h : ¬ s.BadAddress n a) (hp : 0xE0000000 ≤ a.toNat)
    (hr : n = 4 → ∀ r, ¬ s.ReachesEvent a r) (k : AccessKind) : s.locate k n a = .refused (.p4Access a) := by
  rcases s.locate_cases k n a with ⟨hb, _⟩ | ⟨hm, _⟩ | ⟨hn, r, he, _⟩ | ⟨_, _, _, hl⟩
  · exact absurd hb h
  · exact absurd hm.2 (by omega)
  · exact absurd he (hr hn r)
  · exact hl

theorem State.loadByte_p4 {a : Word} (h : ¬ s.BadAddress 1 a) (hp : 0xE0000000 ≤ a.toNat) (k : AccessKind) :
    s.loadByte k a = .refused (.p4Access a) := by
  simp [State.loadByte, State.locate_p4 h hp (by simp), Access.bind]

theorem State.loadWord_p4 {a : Word} (h : ¬ s.BadAddress 2 a) (hp : 0xE0000000 ≤ a.toNat) (k : AccessKind) :
    s.loadWord k a = .refused (.p4Access a) := by
  simp [State.loadWord, State.locate_p4 h hp (by simp), Access.bind]

theorem State.loadLong_p4 {a : Word} (h : ¬ s.BadAddress 4 a) (hp : 0xE0000000 ≤ a.toNat) (hr : ∀ r, ¬ s.ReachesEvent a r)
    (k : AccessKind) : s.loadLong k a = .refused (.p4Access a) := by
  simp [State.loadLong, State.locate_p4 h hp fun _ => hr, Access.bind]

theorem State.storeByte_p4 {a : Word} (h : ¬ s.BadAddress 1 a) (hp : 0xE0000000 ≤ a.toNat) (v : Byte) :
    s.storeByte a v = .refused (.p4Access a) := by
  simp [State.storeByte, State.locate_p4 h hp (by simp), Access.bind]

theorem State.storeWord_p4 {a : Word} (h : ¬ s.BadAddress 2 a) (hp : 0xE0000000 ≤ a.toNat) (v : Half) :
    s.storeWord a v = .refused (.p4Access a) := by
  simp [State.storeWord, State.locate_p4 h hp (by simp), Access.bind]

theorem State.storeLong_p4 {a : Word} (h : ¬ s.BadAddress 4 a) (hp : 0xE0000000 ≤ a.toNat) (hr : ∀ r, ¬ s.ReachesEvent a r)
    (v : Word) : s.storeLong a v = .refused (.p4Access a) := by
  simp [State.storeLong, State.locate_p4 h hp fun _ => hr, Access.bind]

/-- An access faults at one of the n bytes from p on that hold no value. -/
def FaultsAmong {α : Type} (s : State) (p n : Nat) (r : Access α) : Prop :=
  ∃ a ∈ span p n, s.readByte a = none ∧ r = .fault (.unwrittenMemory a)

theorem State.loadByte_unwritten {a : Word} (h : s.MayAccess 1 a) (hu : ∃ x ∈ span (place a) 1, s.readByte x = none)
    (k : AccessKind) : FaultsAmong s (place a) 1 (s.loadByte k a) := by
  obtain ⟨x, hx, hn⟩ := hu
  rw [mem_span] at hx
  obtain rfl : x = place a := by omega
  exact ⟨_, by simp [mem_span], hn, by simp [State.loadByte, State.locate_memory h, Access.bind, State.byteAt, hn]⟩

theorem State.loadWord_unwritten {a : Word} (h : s.MayAccess 2 a) (hu : ∃ x ∈ span (place a) 2, s.readByte x = none)
    (k : AccessKind) : FaultsAmong s (place a) 2 (s.loadWord k a) := by
  obtain ⟨x, hx, hn⟩ := hu
  rw [mem_span] at hx
  simp only [State.loadWord, State.locate_memory h, Access.bind, State.byteAt]
  cases h0 : s.readByte (place a) with
  | none => exact ⟨_, by simp [mem_span], h0, rfl⟩
  | some b0 =>
    cases h1 : s.readByte (place a + 1) with
    | none => exact ⟨_, by simp [mem_span], h1, rfl⟩
    | some b1 =>
      have hc : x = place a ∨ x = place a + 1 := by omega
      rcases hc with rfl | rfl <;> simp_all

theorem State.loadLong_unwritten {a : Word} (h : s.MayAccess 4 a) (hu : ∃ x ∈ span (place a) 4, s.readByte x = none)
    (k : AccessKind) : FaultsAmong s (place a) 4 (s.loadLong k a) := by
  obtain ⟨x, hx, hn⟩ := hu
  rw [mem_span] at hx
  simp only [State.loadLong, State.locate_memory h, Access.bind, State.byteAt]
  cases h0 : s.readByte (place a) with
  | none => exact ⟨_, by simp [mem_span], h0, rfl⟩
  | some b0 =>
    cases h1 : s.readByte (place a + 1) with
    | none => exact ⟨_, by simp [mem_span], h1, rfl⟩
    | some b1 =>
      cases h2 : s.readByte (place a + 2) with
      | none => exact ⟨_, by simp [mem_span], h2, rfl⟩
      | some b2 =>
        cases h3 : s.readByte (place a + 3) with
        | none => exact ⟨_, by simp [mem_span], h3, rfl⟩
        | some b3 =>
          have hc : x = place a ∨ x = place a + 1 ∨ x = place a + 2 ∨ x = place a + 3 := by omega
          rcases hc with rfl | rfl | rfl | rfl <;> simp_all

/-! ## Operations of several accesses -/

/-- The read-modify-write of a byte that is readable (R220 (b)): below P4 the same byte can be stored. -/
theorem State.modifyByte_readable {ea : Word} {v : Byte} (h : s.Readable 1 ea v.toNat) (f : Byte → Byte)
    (g : State → Byte → State) : s.modifyByte ea f g = (g (s.storeBytes (place ea) [f v]) v).done := by
  rcases h with ⟨hm, hh⟩ | ⟨h, -⟩
  · rw [State.modifyByte, State.loadByte_readable (.inl ⟨hm, hh⟩)]
    simp [State.storeByte_memory hm]
  · cases h

/-- The read-modify-write of a byte at a bad address: the read raises. -/
theorem State.modifyByte_bad {ea : Word} (h : s.BadAddress 1 ea) (f : Byte → Byte) (g : State → Byte → State) :
    s.modifyByte ea f g = .next (s.takeExc (.addressError .read ea)) := by
  rw [State.modifyByte, State.loadByte_bad h]; rfl

/-- The two reads of `MAC` when both give a value: what follows sees both increments. -/
theorem State.macReads_done {w : Nat} {load : State → Word → Access (BitVec w)} {size : Word} {m n : Reg}
    {rest : State → BitVec w → BitVec w → State} {a b : BitVec w} (ha : load s (s.reg n) = .ok a)
    (hb : load (s.nextAnswers.setReg n (s.reg n + size)) ((s.nextAnswers.setReg n (s.reg n + size)).reg m) = .ok b) :
    s.macReads load size m n rest =
      (rest ((s.nextAnswers.setReg n (s.reg n + size)).setReg m ((s.nextAnswers.setReg n (s.reg n + size)).reg m + size)) a b).done := by
  simp [State.macReads, ha, hb]

/-- The two reads of `MAC` when the first raises. -/
theorem State.macReads_raises_first {w : Nat} {load : State → Word → Access (BitVec w)} {size : Word} {m n : Reg}
    {rest : State → BitVec w → BitVec w → State} {e : Exc} (ha : load s (s.reg n) = .raises e) :
    s.macReads load size m n rest = .next (s.takeExc e) := by
  simp [State.macReads, ha]

/-- The two reads of `MAC` when the second raises (U10). -/
theorem State.macReads_raises_second {w : Nat} {load : State → Word → Access (BitVec w)} {size : Word} {m n : Reg}
    {rest : State → BitVec w → BitVec w → State} {a : BitVec w} {e : Exc} (ha : load s (s.reg n) = .ok a)
    (hb : load (s.nextAnswers.setReg n (s.reg n + size)) ((s.nextAnswers.setReg n (s.reg n + size)).reg m) = .raises e) :
    ∃ u, (u = s.nextAnswers ∨ u = s.nextAnswers.setReg n (s.reg n + size)) ∧
      s.macReads load size m n rest = .next (({ u with freeCount := s.freeCount + 1 } : State).takeExc e) := by
  refine ⟨if Config.macKeepsIncrement s.freeCount then s.nextAnswers.setReg n (s.reg n + size) else s.nextAnswers, ?_, ?_⟩
  · by_cases h : Config.macKeepsIncrement s.freeCount = true <;> simp [h]
  · simp [State.macReads, ha, hb, State.raise]

/-- The two reads of `MAC` when the second faults. -/
theorem State.macReads_fault_second {w : Nat} {load : State → Word → Access (BitVec w)} {size : Word} {m n : Reg}
    {rest : State → BitVec w → BitVec w → State} {a : BitVec w} {f : Fault} (ha : load s (s.reg n) = .ok a)
    (hb : load (s.nextAnswers.setReg n (s.reg n + size)) ((s.nextAnswers.setReg n (s.reg n + size)).reg m) = .fault f) :
    s.macReads load size m n rest = .fault f := by
  simp [State.macReads, ha, hb]

/-- The two reads of `MAC` when the second is refused. -/
theorem State.macReads_refused_second {w : Nat} {load : State → Word → Access (BitVec w)} {size : Word} {m n : Reg}
    {rest : State → BitVec w → BitVec w → State} {a : BitVec w} {x : Refusal} (ha : load s (s.reg n) = .ok a)
    (hb : load (s.nextAnswers.setReg n (s.reg n + size)) ((s.nextAnswers.setReg n (s.reg n + size)).reg m) = .refused x) :
    s.macReads load size m n rest = .refused x := by
  simp [State.macReads, ha, hb]

/-! ## Before an instruction -/

/-- Nothing comes before the next instruction of an undisturbed state. -/
theorem State.Undisturbed.before (h : s.Undisturbed) : s.beforeInstruction = none := by
  obtain ⟨h1, h2, h3⟩ := h
  simp only [State.beforeInstruction, h1, State.inSlot, State.acceptInterrupt, h2]
  rcases h3 with h3 | h3 | ⟨h3, h4⟩
  · simp [Option.isSome_iff_ne_none, h3]
  · simp [h3]
  · simp [h3, Nat.not_lt.2 h4]

/-- What a step does before an instruction, when it does something: a reset, NMI, an interrupt, or sleeping on. -/
theorem State.before_cases (h : s.beforeInstruction = some t) :
    (∃ k, s.resetPin = some k ∧ t = s.takeReset k) ∨
    (s.resetPin = none ∧ s.slot = none ∧ s.blocked = false ∧ s.nmi = true ∧
      t = { s.enterInterrupt 0x1C0 with nmi := false }) ∨
    (s.resetPin = none ∧ s.slot = none ∧ s.blocked = false ∧ s.nmi = false ∧ s.maskLevel < s.level.val ∧
      t = s.enterInterrupt (levelCode s.level)) ∨
    (s.resetPin = none ∧ s.asleep = true ∧ t = s) := by
  unfold State.beforeInstruction at h
  cases hr : s.resetPin with
  | some k => rw [hr] at h; exact .inl ⟨k, rfl, by simpa using h.symm⟩
  | none =>
    rw [hr] at h
    cases hs : s.slot with
    | some x =>
      simp only [State.inSlot, hs, Option.isSome_some, if_true] at h
      split at h
      · rename_i ha; exact .inr (.inr (.inr ⟨rfl, ha, by simpa using h.symm⟩))
      · cases h
    | none =>
      simp only [State.inSlot, hs, Option.isSome_none, Bool.false_eq_true, if_false] at h
      unfold State.acceptInterrupt at h
      cases hb : s.blocked <;> cases hn : s.nmi <;> cases ha : s.asleep <;>
        by_cases hl : s.maskLevel < s.level.val <;> simp_all

/-- An instruction executes only when the machine is awake and no reset is requested. -/
theorem State.before_none (h : s.beforeInstruction = none) : s.resetPin = none ∧ s.asleep = false := by
  unfold State.beforeInstruction at h
  split at h
  · cases h
  · rename_i hr
    refine ⟨hr, ?_⟩
    split at h
    · cases h
    · by_contra ha; simp [ha] at h

/-- What comes before an instruction says whether the machine is undisturbed. -/
theorem State.undisturbed_of_before (h : s.beforeInstruction = none) : s.Undisturbed := by
  obtain ⟨hr, ha⟩ := State.before_none h
  refine ⟨hr, ha, ?_⟩
  by_contra hn
  simp only [not_or, not_and, not_not, Nat.not_le] at hn
  obtain ⟨hs, hb, hl⟩ := hn
  simp only [State.beforeInstruction, hr, State.inSlot, hs, State.acceptInterrupt, hb] at h
  cases hm : s.nmi <;> simp_all

/-- A fetch that gives a word, when nothing comes before it, is that of the word at pc. -/
theorem State.fetches_of_fetch {w : Half} (hb : s.beforeInstruction = none) (hf : s.fetch = .ok w) : s.Fetches w := by
  rcases s.locate_cases .fetch 2 s.pc with ⟨_, hl⟩ | ⟨hm, hl⟩ | ⟨h2, _⟩ | ⟨_, _, _, hl⟩
  · simp [State.fetch, hl, Access.bind] at hf
  · simp only [State.fetch, State.loadWord, hl, Access.bind] at hf
    split at hf
    · cases hf
    · rename_i t0
      split at hf
      · cases hf
      · rename_i t1
        simp only [Bool.not_eq_true', Bool.not_eq_false] at t0 t1
        simp only [State.byteAt, State.readByte_own ((s.isText_iff _).1 t0).2, State.readByte_own ((s.isText_iff _).1 t1).2] at hf
        cases h0 : s.mem.read (place s.pc) with
        | none => simp [h0] at hf
        | some b0 =>
          cases h1 : s.mem.read (place s.pc + 1) with
          | none => simp [h0, h1] at hf
          | some b1 =>
            simp only [h0, h1, Access.ok.injEq] at hf
            refine ⟨State.undisturbed_of_before hb, hm, ⟨[b0, b1], rfl, ?_, fun k hk => ?_⟩, fun a ha => ?_⟩
            · rw [← hf, toNat_join2]
            · simp at hk; interval_cases k <;> simpa
            · rw [mem_span] at ha
              obtain rfl | rfl : a = place s.pc ∨ a = place s.pc + 1 := by omega
              · exact t0
              · exact t1
  · cases h2
  · simp [State.fetch, hl, Access.bind] at hf

end Sys2Proof.Machine
end

