-- ==== Sys2Proof/Tests/Slice0.lean ====
section
/-! SUPPORT. Tests on fixed values: what WellFormed refuses, one word of every instruction decoded, single steps with
the expected values of 95_test_vectors.md or of the rules, and for every statement with hypotheses a state that meets
them. -/

namespace Sys2Proof.Tests

open Sys2Proof Sys2Proof.Machine

/-! ## Helpers -/

/-- s with bytes at a physical address, not recorded as stored to. -/
def put (s : State) (a : Nat) (bytes : List Byte) : State := { s with mem := Memory.writeBytes s.mem a bytes }

/-- The start state of 95_test_vectors.md: privileged, BL = RB = 0, everything else 0, with one word at pc. -/
def start (pc : Word) (code : Half) : State :=
  put { State.reset with sr := 0x40000000, pc := pc } pc.toNat [code.extractLsb' 8 8, code.extractLsb' 0 8]

/-- Whether the answer is a next state of which p holds. -/
def leaves (r : Result) (p : State → Bool) : Bool :=
  match r with
  | .next t => p t
  | .fault _ => false
  | .refused _ => false

/-- Whether the answer is this fault. -/
def faultsWith (r : Result) (f : Fault) : Bool :=
  match r with
  | .next _ => false
  | .fault g => g == f
  | .refused _ => false

/-- Whether the answer is this refusal. -/
def refusesWith (r : Result) (x : Refusal) : Bool :=
  match r with
  | .next _ => false
  | .fault _ => false
  | .refused y => y == x

/-! ## WellFormed -/

theorem test_wellFormed_refuses_pc_relative_in_slot : WellFormed true true (.mova 0) = false ∧
    WellFormed true true (.movWPc 0 1) = false ∧ WellFormed true true (.movLPc 0 1) = false := by decide

theorem test_wellFormed_refuses_branch_in_slot : WellFormed true true (.bra 0) = false := by decide

theorem test_wellFormed_refuses_trapa_in_slot : WellFormed true true (.trapa 0) = false := by decide

theorem test_wellFormed_refuses_write_of_sr_in_slot : WellFormed true true (.ldcSr 1) = false := by decide

theorem test_wellFormed_refuses_privileged_in_user_mode : WellFormed false false .rte = false := by decide

theorem test_wellFormed_refuses_back_bank_in_user_mode : WellFormed false false (.stcBank 0 1) = false := by decide

theorem test_wellFormed_refuses_one_register_for_two : WellFormed false true (.div1 1 1) = false ∧
    WellFormed false true (.macL 5 5) = false ∧ WellFormed false true (.macW 5 5) = false ∧
    WellFormed false true (.div1 0 1) = true ∧ WellFormed false true (.macL 4 5) = true ∧
    WellFormed false true (.macW 4 5) = true ∧ WellFormed false true (.add 1 1) = true := by decide

theorem test_wellFormed_accepts : WellFormed true false (.add 1 2) = true ∧ WellFormed false true .rte = true ∧
    WellFormed false false (.bra 0) = true := by decide

/-! ## Decoding: one word of every instruction, its encoding of opcode_table.json with m = 5, n = 10, bank register 3,
and 0b1001, 0b11000011 or 0b101000000110 in a 4-, 8- or 12-bit field -/

theorem test_decode_data_transfer_1 :
    decode 0b1110101011000011 = .ok (.movImm 0b11000011 10) ∧
    decode 0b1001101011000011 = .ok (.movWPc 0b11000011 10) ∧
    decode 0b1101101011000011 = .ok (.movLPc 0b11000011 10) ∧
    decode 0b0110101001010011 = .ok (.mov 5 10) ∧
    decode 0b0010101001010000 = .ok (.movBStore 5 10) ∧
    decode 0b0010101001010001 = .ok (.movWStore 5 10) ∧
    decode 0b0010101001010010 = .ok (.movLStore 5 10) ∧
    decode 0b0110101001010000 = .ok (.movBLoad 5 10) ∧
    decode 0b0110101001010001 = .ok (.movWLoad 5 10) ∧
    decode 0b0110101001010010 = .ok (.movLLoad 5 10) ∧
    decode 0b0010101001010100 = .ok (.movBStoreDec 5 10) ∧
    decode 0b0010101001010101 = .ok (.movWStoreDec 5 10) ∧
    decode 0b0010101001010110 = .ok (.movLStoreDec 5 10) ∧
    decode 0b0110101001010100 = .ok (.movBLoadInc 5 10) ∧
    decode 0b0110101001010101 = .ok (.movWLoadInc 5 10) ∧
    decode 0b0110101001010110 = .ok (.movLLoadInc 5 10) ∧
    decode 0b1000000010101001 = .ok (.movBStoreDisp 0b1001 10) ∧
    decode 0b1000000110101001 = .ok (.movWStoreDisp 0b1001 10) ∧
    decode 0b0001101001011001 = .ok (.movLStoreDisp 5 0b1001 10) ∧
    decode 0b1000010001011001 = .ok (.movBLoadDisp 0b1001 5) := by decide

theorem test_decode_data_transfer_2 :
    decode 0b1000010101011001 = .ok (.movWLoadDisp 0b1001 5) ∧
    decode 0b0101101001011001 = .ok (.movLLoadDisp 0b1001 5 10) ∧
    decode 0b0000101001010100 = .ok (.movBStoreIdx 5 10) ∧
    decode 0b0000101001010101 = .ok (.movWStoreIdx 5 10) ∧
    decode 0b0000101001010110 = .ok (.movLStoreIdx 5 10) ∧
    decode 0b0000101001011100 = .ok (.movBLoadIdx 5 10) ∧
    decode 0b0000101001011101 = .ok (.movWLoadIdx 5 10) ∧
    decode 0b0000101001011110 = .ok (.movLLoadIdx 5 10) ∧
    decode 0b1100000011000011 = .ok (.movBStoreGbr 0b11000011) ∧
    decode 0b1100000111000011 = .ok (.movWStoreGbr 0b11000011) ∧
    decode 0b1100001011000011 = .ok (.movLStoreGbr 0b11000011) ∧
    decode 0b1100010011000011 = .ok (.movBLoadGbr 0b11000011) ∧
    decode 0b1100010111000011 = .ok (.movWLoadGbr 0b11000011) ∧
    decode 0b1100011011000011 = .ok (.movLLoadGbr 0b11000011) ∧
    decode 0b1100011111000011 = .ok (.mova 0b11000011) ∧
    decode 0b0000101000101001 = .ok (.movt 10) ∧
    decode 0b0110101001011000 = .ok (.swapB 5 10) ∧
    decode 0b0110101001011001 = .ok (.swapW 5 10) ∧
    decode 0b0010101001011101 = .ok (.xtrct 5 10) := by decide

theorem test_decode_arithmetic_1 :
    decode 0b0011101001011100 = .ok (.add 5 10) ∧
    decode 0b0111101011000011 = .ok (.addImm 0b11000011 10) ∧
    decode 0b0011101001011110 = .ok (.addc 5 10) ∧
    decode 0b0011101001011111 = .ok (.addv 5 10) ∧
    decode 0b1000100011000011 = .ok (.cmpEqImm 0b11000011) ∧
    decode 0b0011101001010000 = .ok (.cmpEq 5 10) ∧
    decode 0b0011101001010010 = .ok (.cmpHs 5 10) ∧
    decode 0b0011101001010011 = .ok (.cmpGe 5 10) ∧
    decode 0b0011101001010110 = .ok (.cmpHi 5 10) ∧
    decode 0b0011101001010111 = .ok (.cmpGt 5 10) ∧
    decode 0b0100101000010001 = .ok (.cmpPz 10) ∧
    decode 0b0100101000010101 = .ok (.cmpPl 10) ∧
    decode 0b0010101001011100 = .ok (.cmpStr 5 10) ∧
    decode 0b0010101001010111 = .ok (.div0s 5 10) ∧
    decode 0b0000000000011001 = .ok .div0u ∧
    decode 0b0011101001010100 = .ok (.div1 5 10) ∧
    decode 0b0011101001011101 = .ok (.dmulsL 5 10) ∧
    decode 0b0011101001010101 = .ok (.dmuluL 5 10) ∧
    decode 0b0000101001010111 = .ok (.mulL 5 10) ∧
    decode 0b0010101001011111 = .ok (.mulsW 5 10) := by decide

theorem test_decode_arithmetic_2 :
    decode 0b0010101001011110 = .ok (.muluW 5 10) ∧
    decode 0b0000101001011111 = .ok (.macL 5 10) ∧
    decode 0b0100101001011111 = .ok (.macW 5 10) ∧
    decode 0b0110101001011011 = .ok (.neg 5 10) ∧
    decode 0b0110101001011010 = .ok (.negc 5 10) ∧
    decode 0b0011101001011000 = .ok (.sub 5 10) ∧
    decode 0b0011101001011010 = .ok (.subc 5 10) ∧
    decode 0b0011101001011011 = .ok (.subv 5 10) ∧
    decode 0b0100101000010000 = .ok (.dt 10) ∧
    decode 0b0110101001011110 = .ok (.extsB 5 10) ∧
    decode 0b0110101001011111 = .ok (.extsW 5 10) ∧
    decode 0b0110101001011100 = .ok (.extuB 5 10) ∧
    decode 0b0110101001011101 = .ok (.extuW 5 10) := by decide

theorem test_decode_logic :
    decode 0b0010101001011001 = .ok (.and 5 10) ∧
    decode 0b1100100111000011 = .ok (.andImm 0b11000011) ∧
    decode 0b1100110111000011 = .ok (.andB 0b11000011) ∧
    decode 0b0110101001010111 = .ok (.not 5 10) ∧
    decode 0b0010101001011011 = .ok (.or 5 10) ∧
    decode 0b1100101111000011 = .ok (.orImm 0b11000011) ∧
    decode 0b1100111111000011 = .ok (.orB 0b11000011) ∧
    decode 0b0100101000011011 = .ok (.tasB 10) ∧
    decode 0b0010101001011000 = .ok (.tst 5 10) ∧
    decode 0b1100100011000011 = .ok (.tstImm 0b11000011) ∧
    decode 0b1100110011000011 = .ok (.tstB 0b11000011) ∧
    decode 0b0010101001011010 = .ok (.xor 5 10) ∧
    decode 0b1100101011000011 = .ok (.xorImm 0b11000011) ∧
    decode 0b1100111011000011 = .ok (.xorB 0b11000011) := by decide

theorem test_decode_shift :
    decode 0b0100101000000100 = .ok (.rotl 10) ∧
    decode 0b0100101000000101 = .ok (.rotr 10) ∧
    decode 0b0100101000100100 = .ok (.rotcl 10) ∧
    decode 0b0100101000100101 = .ok (.rotcr 10) ∧
    decode 0b0100101000100000 = .ok (.shal 10) ∧
    decode 0b0100101000100001 = .ok (.shar 10) ∧
    decode 0b0100101001011100 = .ok (.shad 5 10) ∧
    decode 0b0100101000000000 = .ok (.shll 10) ∧
    decode 0b0100101000000001 = .ok (.shlr 10) ∧
    decode 0b0100101000001000 = .ok (.shll2 10) ∧
    decode 0b0100101000011000 = .ok (.shll8 10) ∧
    decode 0b0100101000101000 = .ok (.shll16 10) ∧
    decode 0b0100101000001001 = .ok (.shlr2 10) ∧
    decode 0b0100101000011001 = .ok (.shlr8 10) ∧
    decode 0b0100101000101001 = .ok (.shlr16 10) ∧
    decode 0b0100101001011101 = .ok (.shld 5 10) := by decide

theorem test_decode_branch :
    decode 0b1000101111000011 = .ok (.bf 0b11000011) ∧
    decode 0b1000111111000011 = .ok (.bfS 0b11000011) ∧
    decode 0b1000100111000011 = .ok (.bt 0b11000011) ∧
    decode 0b1000110111000011 = .ok (.btS 0b11000011) ∧
    decode 0b1010101000000110 = .ok (.bra 0b101000000110) ∧
    decode 0b0000010100100011 = .ok (.braf 5) ∧
    decode 0b1011101000000110 = .ok (.bsr 0b101000000110) ∧
    decode 0b0000010100000011 = .ok (.bsrf 5) ∧
    decode 0b0100010100101011 = .ok (.jmp 5) ∧
    decode 0b0100010100001011 = .ok (.jsr 5) ∧
    decode 0b0000000000001011 = .ok .rts := by decide

theorem test_decode_system_control_1 :
    decode 0b0000000000101000 = .ok .clrmac ∧
    decode 0b0000000001001000 = .ok .clrs ∧
    decode 0b0000000000001000 = .ok .clrt ∧
    decode 0b0000000001011000 = .ok .sets ∧
    decode 0b0000000000011000 = .ok .sett ∧
    decode 0b0000000000001001 = .ok .nop ∧
    decode 0b0100010100001110 = .ok (.ldcSr 5) ∧
    decode 0b0100010100011110 = .ok (.ldcGbr 5) ∧
    decode 0b0100010100101110 = .ok (.ldcVbr 5) ∧
    decode 0b0100010100111110 = .ok (.ldcSsr 5) ∧
    decode 0b0100010101001110 = .ok (.ldcSpc 5) ∧
    decode 0b0100010100000111 = .ok (.ldcLSr 5) ∧
    decode 0b0100010100010111 = .ok (.ldcLGbr 5) ∧
    decode 0b0100010100100111 = .ok (.ldcLVbr 5) ∧
    decode 0b0100010100110111 = .ok (.ldcLSsr 5) ∧
    decode 0b0100010101000111 = .ok (.ldcLSpc 5) ∧
    decode 0b0100010110111110 = .ok (.ldcBank 5 3) ∧
    decode 0b0100010110110111 = .ok (.ldcLBank 5 3) ∧
    decode 0b0000101000000010 = .ok (.stcSr 10) ∧
    decode 0b0000101000010010 = .ok (.stcGbr 10) := by decide

theorem test_decode_system_control_2 :
    decode 0b0000101000100010 = .ok (.stcVbr 10) ∧
    decode 0b0000101000110010 = .ok (.stcSsr 10) ∧
    decode 0b0000101001000010 = .ok (.stcSpc 10) ∧
    decode 0b0100101000000011 = .ok (.stcLSr 10) ∧
    decode 0b0100101000010011 = .ok (.stcLGbr 10) ∧
    decode 0b0100101000100011 = .ok (.stcLVbr 10) ∧
    decode 0b0100101000110011 = .ok (.stcLSsr 10) ∧
    decode 0b0100101001000011 = .ok (.stcLSpc 10) ∧
    decode 0b0000101010110010 = .ok (.stcBank 3 10) ∧
    decode 0b0100101010110011 = .ok (.stcLBank 3 10) ∧
    decode 0b0100010100001010 = .ok (.ldsMach 5) ∧
    decode 0b0100010100011010 = .ok (.ldsMacl 5) ∧
    decode 0b0100010100101010 = .ok (.ldsPr 5) ∧
    decode 0b0100010100000110 = .ok (.ldsLMach 5) ∧
    decode 0b0100010100010110 = .ok (.ldsLMacl 5) ∧
    decode 0b0100010100100110 = .ok (.ldsLPr 5) ∧
    decode 0b0000101000001010 = .ok (.stsMach 10) ∧
    decode 0b0000101000011010 = .ok (.stsMacl 10) ∧
    decode 0b0000101000101010 = .ok (.stsPr 10) ∧
    decode 0b0100101000000010 = .ok (.stsLMach 10) := by decide

theorem test_decode_system_control_3 :
    decode 0b0100101000010010 = .ok (.stsLMacl 10) ∧
    decode 0b0100101000100010 = .ok (.stsLPr 10) ∧
    decode 0b0000000000101011 = .ok .rte ∧
    decode 0b1100001111000011 = .ok (.trapa 0b11000011) ∧
    decode 0b0000000000011011 = .ok .sleep ∧
    decode 0b0000101010000011 = .ok (.pref 10) ∧
    decode 0b0000000000111000 = .ok .ldtlb := by decide

theorem test_decode_refuses : decode 0b1111111111111101 = .error (.reservedWord 0xFFFD) ∧
    decode 0b0000000000000001 = .error (.reservedWord 0x0001) ∧
    decodeTableWord 16 0xE17F = some (.movImm 0x7F 1) ∧ decodeTableWord 16 0xFFFD = none := by decide

/-! ## Single steps, expected values of 95_test_vectors.md -/

/-- Vector `MOV #80,R1` of 95_test_vectors.md (R121). -/
theorem test_movImm : leaves (step (start 0x1000 0xE180))
    (fun t => t.reg 1 == 0xFFFFFF80 && t.pc == 0x1002) = true := by decide

/-- Vector `MOV #7F,R1` of 95_test_vectors.md (R121). -/
theorem test_movImm_again : leaves (step (start 0x1000 0xE17F))
    (fun t => t.reg 1 == 0x0000007F && t.pc == 0x1002) = true := by decide

/-- Vector `MOV.W @(2,PC),R1 at 0x1000 (ea 0x1008)` of 95_test_vectors.md (R122). -/
theorem test_movWPc : leaves (step (put (start 0x1000 0x9102) 0x1008 [0x80, 0x01]))
    (fun t => t.reg 1 == 0xFFFF8001 && t.pc == 0x1002) = true := by decide

/-- Vector `MOV.L @(1,PC),R1 at 0x1002 (ea 0x1008)` of 95_test_vectors.md (R123). -/
theorem test_movLPc : leaves (step (put (start 0x1002 0xD101) 0x1008 [0x12, 0x34, 0x56, 0x78]))
    (fun t => t.reg 1 == 0x12345678 && t.pc == 0x1004) = true := by decide

/-- Vector `MOV.L @(1,PC),R1 at 0x1000 (ea 0x1008)` of 95_test_vectors.md (R123). -/
theorem test_movLPc_again : leaves (step (put (start 0x1000 0xD101) 0x1008 [0x12, 0x34, 0x56, 0x78]))
    (fun t => t.reg 1 == 0x12345678 && t.pc == 0x1002) = true := by decide

/-- Vector `MOV R1,R2` of 95_test_vectors.md (R124). -/
theorem test_mov : leaves (step ((start 0x1000 0x6213) |>.setReg 1 0xDEADBEEF))
    (fun t => t.reg 2 == 0xDEADBEEF && t.pc == 0x1002) = true := by decide

/-- Vector `MOV.B R1,@R2` of 95_test_vectors.md (R125). -/
theorem test_movBStore : leaves (step ((start 0x1000 0x2210) |>.setReg 1 0x12345678 |>.setReg 2 0x00002001))
    (fun t => t.mem.read 0x2001 == some 0x78 && t.pc == 0x1002) = true := by decide

/-- Vector `MOV.W R1,@R2` of 95_test_vectors.md (R126). -/
theorem test_movWStore : leaves (step ((start 0x1000 0x2211) |>.setReg 1 0x12345678 |>.setReg 2 0x00002002))
    (fun t => t.mem.read 0x2002 == some 0x56 && t.mem.read 0x2003 == some 0x78 && t.pc == 0x1002) = true := by decide

/-- Vector `MOV.W R1,@R2 (odd)` of 95_test_vectors.md (R126). -/
theorem test_movWStore_again : leaves (step ((start 0x1000 0x2211) |>.setReg 1 0x12345678 |>.setReg 2 0x00002001))
    (fun t => t.ssr == 0x40000000 && t.spc == 0x00001000 && t.expevt == 0x00000100 && t.sr == 0x70000000 && t.pc == 0x00000100) = true := by decide

/-- Vector `MOV.L R1,@R2` of 95_test_vectors.md (R127). -/
theorem test_movLStore : leaves (step ((start 0x1000 0x2212) |>.setReg 1 0x12345678 |>.setReg 2 0x00002004))
    (fun t => t.mem.read 0x2004 == some 0x12 && t.mem.read 0x2005 == some 0x34 && t.mem.read 0x2006 == some 0x56 && t.mem.read 0x2007 == some 0x78 && t.pc == 0x1002) = true := by decide

/-- Vector `MOV.L R1,@R2 (addr 0x2002)` of 95_test_vectors.md (R127). -/
theorem test_movLStore_again : leaves (step ((start 0x1000 0x2212) |>.setReg 1 0x12345678 |>.setReg 2 0x00002002))
    (fun t => t.ssr == 0x40000000 && t.spc == 0x00001000 && t.expevt == 0x00000100 && t.sr == 0x70000000 && t.pc == 0x00000100) = true := by decide

/-- Vector `MOV.B @R1,R2` of 95_test_vectors.md (R128). -/
theorem test_movBLoad : leaves (step (put ((start 0x1000 0x6210) |>.setReg 1 0x00002000) 0x2000 [0x80]))
    (fun t => t.reg 2 == 0xFFFFFF80 && t.pc == 0x1002) = true := by decide

/-- Vector `MOV.W @R1,R2` of 95_test_vectors.md (R129). -/
theorem test_movWLoad : leaves (step (put ((start 0x1000 0x6211) |>.setReg 1 0x00002000) 0x2000 [0x7F, 0xFF]))
    (fun t => t.reg 2 == 0x00007FFF && t.pc == 0x1002) = true := by decide

/-- Vector `MOV.L @R1,R2` of 95_test_vectors.md (R130). -/
theorem test_movLLoad : leaves (step (put ((start 0x1000 0x6212) |>.setReg 1 0x00002000) 0x2000 [0x80, 0x00, 0x00, 0x01]))
    (fun t => t.reg 2 == 0x80000001 && t.pc == 0x1002) = true := by decide

/-- Vector `MOV.L R1,@-R1 (m = n)` of 95_test_vectors.md (R133). -/
theorem test_movLStoreDec : leaves (step ((start 0x1000 0x2116) |>.setReg 1 0x00002004))
    (fun t => t.mem.read 0x2000 == some 0x00 && t.mem.read 0x2001 == some 0x00 && t.mem.read 0x2002 == some 0x20 && t.mem.read 0x2003 == some 0x04 && t.reg 1 == 0x00002000 && t.pc == 0x1002) = true := by decide

/-- Vector `MOV.W R1,@-R15` of 95_test_vectors.md (R132). -/
theorem test_movWStoreDec : leaves (step ((start 0x1000 0x2F15) |>.setReg 1 0xABCD1234 |>.setReg 15 0x00003000))
    (fun t => t.mem.read 0x2FFE == some 0x12 && t.mem.read 0x2FFF == some 0x34 && t.reg 15 == 0x00002FFE && t.pc == 0x1002) = true := by decide

/-- Vector `MOV.L @R1+,R1 (m = n)` of 95_test_vectors.md (R136). -/
theorem test_movLLoadInc : leaves (step (put ((start 0x1000 0x6116) |>.setReg 1 0x00002000) 0x2000 [0xCA, 0xFE, 0xBA, 0xBE]))
    (fun t => t.reg 1 == 0xCAFEBABE && t.pc == 0x1002) = true := by decide

/-- Vector `MOV.B R1,@-R2` of 95_test_vectors.md (R131). -/
theorem test_movBStoreDec : leaves (step ((start 0x1000 0x2214) |>.setReg 1 0x12345678 |>.setReg 2 0x00002001))
    (fun t => t.mem.read 0x2000 == some 0x78 && t.reg 2 == 0x00002000 && t.pc == 0x1002) = true := by decide

/-- Vector `MOV.B @R1+,R2` of 95_test_vectors.md (R134). -/
theorem test_movBLoadInc : leaves (step (put ((start 0x1000 0x6214) |>.setReg 1 0x00002000) 0x2000 [0xFF]))
    (fun t => t.reg 1 == 0x00002001 && t.reg 2 == 0xFFFFFFFF && t.pc == 0x1002) = true := by decide

/-- Vector `MOV.L @R15+,R15 (m = n)` of 95_test_vectors.md (R136). -/
theorem test_movLLoadInc_again : leaves (step (put ((start 0x1000 0x6FF6) |>.setReg 15 0x00002000) 0x2000 [0x00, 0x00, 0x00, 0x07]))
    (fun t => t.reg 15 == 0x00000007 && t.pc == 0x1002) = true := by decide

/-- Vector `MOV.W @R4+,R0` of 95_test_vectors.md (R135). -/
theorem test_movWLoadInc : leaves (step (put ((start 0x1000 0x6045) |>.setReg 4 0x00002000) 0x2000 [0xFF, 0xFE]))
    (fun t => t.reg 0 == 0xFFFFFFFE && t.reg 4 == 0x00002002 && t.pc == 0x1002) = true := by decide

/-- Vector `MOV.B R0,@(15,R1)` of 95_test_vectors.md (R137). -/
theorem test_movBStoreDisp : leaves (step ((start 0x1000 0x801F) |>.setReg 0 0x000000AA |>.setReg 1 0x00002000))
    (fun t => t.mem.read 0x200F == some 0xAA && t.pc == 0x1002) = true := by decide

/-- Vector `MOV.W R0,@(15,R1)` of 95_test_vectors.md (R138). -/
theorem test_movWStoreDisp : leaves (step ((start 0x1000 0x811F) |>.setReg 0 0x0000BBAA |>.setReg 1 0x00002000))
    (fun t => t.mem.read 0x201E == some 0xBB && t.mem.read 0x201F == some 0xAA && t.pc == 0x1002) = true := by decide

/-- Vector `MOV.L R2,@(15,R1)` of 95_test_vectors.md (R139). -/
theorem test_movLStoreDisp : leaves (step ((start 0x1000 0x112F) |>.setReg 2 0x11223344 |>.setReg 1 0x00002000))
    (fun t => t.mem.read 0x203C == some 0x11 && t.mem.read 0x203D == some 0x22 && t.mem.read 0x203E == some 0x33 && t.mem.read 0x203F == some 0x44 && t.pc == 0x1002) = true := by decide

/-- Vector `MOV.B @(3,R1),R0` of 95_test_vectors.md (R140). -/
theorem test_movBLoadDisp : leaves (step (put ((start 0x1000 0x8413) |>.setReg 1 0x00002000) 0x2003 [0xF0]))
    (fun t => t.reg 0 == 0xFFFFFFF0 && t.pc == 0x1002) = true := by decide

/-- Vector `MOV.W @(3,R1),R0` of 95_test_vectors.md (R141). -/
theorem test_movWLoadDisp : leaves (step (put ((start 0x1000 0x8513) |>.setReg 1 0x00002000) 0x2006 [0x80, 0x00]))
    (fun t => t.reg 0 == 0xFFFF8000 && t.pc == 0x1002) = true := by decide

/-- Vector `MOV.L @(3,R1),R2` of 95_test_vectors.md (R142). -/
theorem test_movLLoadDisp : leaves (step (put ((start 0x1000 0x5213) |>.setReg 1 0x00002000) 0x200C [0x01, 0x02, 0x03, 0x04]))
    (fun t => t.reg 2 == 0x01020304 && t.pc == 0x1002) = true := by decide

/-- Vector `MOV.B R2,@(R0,R1)` of 95_test_vectors.md (R143). -/
theorem test_movBStoreIdx : leaves (step ((start 0x1000 0x0124) |>.setReg 0 0xFFFFFFFF |>.setReg 1 0x00002001 |>.setReg 2 0x0000005A))
    (fun t => t.mem.read 0x2000 == some 0x5A && t.pc == 0x1002) = true := by decide

/-- Vector `MOV.W R2,@(R0,R1)` of 95_test_vectors.md (R144). -/
theorem test_movWStoreIdx : leaves (step ((start 0x1000 0x0125) |>.setReg 0 0x00000010 |>.setReg 1 0x00002000 |>.setReg 2 0xAABBCCDD))
    (fun t => t.mem.read 0x2010 == some 0xCC && t.mem.read 0x2011 == some 0xDD && t.pc == 0x1002) = true := by decide

/-- Vector `MOV.L R2,@(R0,R1)` of 95_test_vectors.md (R145). -/
theorem test_movLStoreIdx : leaves (step ((start 0x1000 0x0126) |>.setReg 0 0x00000010 |>.setReg 1 0x00002000 |>.setReg 2 0xAABBCCDD))
    (fun t => t.mem.read 0x2010 == some 0xAA && t.mem.read 0x2011 == some 0xBB && t.mem.read 0x2012 == some 0xCC && t.mem.read 0x2013 == some 0xDD && t.pc == 0x1002) = true := by decide

/-- Vector `MOV.B @(R0,R1),R2` of 95_test_vectors.md (R146). -/
theorem test_movBLoadIdx : leaves (step (put ((start 0x1000 0x021C) |>.setReg 0 0x00000010 |>.setReg 1 0x00002000) 0x2010 [0x80]))
    (fun t => t.reg 2 == 0xFFFFFF80 && t.pc == 0x1002) = true := by decide

/-- Vector `MOV.L @(R0,R1),R2 (wraps 2^32)` of 95_test_vectors.md (R148). -/
theorem test_movLLoadIdx : leaves (step (put ((start 0x1000 0x021E) |>.setReg 0 0xFFFFF000 |>.setReg 1 0x00003010) 0x2010 [0x13, 0x57, 0x24, 0x68]))
    (fun t => t.reg 2 == 0x13572468 && t.pc == 0x1002) = true := by decide

/-- Vector `MOV.W @(R0,R1),R2` of 95_test_vectors.md (R147). -/
theorem test_movWLoadIdx : leaves (step (put ((start 0x1000 0x021D) |>.setReg 0 0x00000010 |>.setReg 1 0x00002000) 0x2010 [0x81, 0x23]))
    (fun t => t.reg 2 == 0xFFFF8123 && t.pc == 0x1002) = true := by decide

/-- Vector `MOV.L R0,@(255,GBR)` of 95_test_vectors.md (R151). -/
theorem test_movLStoreGbr : leaves (step (({ start 0x1000 0xC2FF with gbr := 0x00004000 } : State) |>.setReg 0 0xA1B2C3D4))
    (fun t => t.mem.read 0x43FC == some 0xA1 && t.mem.read 0x43FD == some 0xB2 && t.mem.read 0x43FE == some 0xC3 && t.mem.read 0x43FF == some 0xD4 && t.pc == 0x1002) = true := by decide

/-- Vector `MOV.B R0,@(1,GBR)` of 95_test_vectors.md (R149). -/
theorem test_movBStoreGbr : leaves (step (({ start 0x1000 0xC001 with gbr := 0x00004000 } : State) |>.setReg 0 0x00001234))
    (fun t => t.mem.read 0x4001 == some 0x34 && t.pc == 0x1002) = true := by decide

/-- Vector `MOV.W R0,@(255,GBR)` of 95_test_vectors.md (R150). -/
theorem test_movWStoreGbr : leaves (step (({ start 0x1000 0xC1FF with gbr := 0x00004000 } : State) |>.setReg 0 0x00001234))
    (fun t => t.mem.read 0x41FE == some 0x12 && t.mem.read 0x41FF == some 0x34 && t.pc == 0x1002) = true := by decide

/-- Vector `MOV.L @(1,GBR),R0` of 95_test_vectors.md (R154). -/
theorem test_movLLoadGbr : leaves (step (put (({ start 0x1000 0xC601 with gbr := 0x00004000 } : State)) 0x4004 [0x89, 0xAB, 0xCD, 0xEF]))
    (fun t => t.reg 0 == 0x89ABCDEF && t.pc == 0x1002) = true := by decide

/-- Vector `MOV.B @(255,GBR),R0` of 95_test_vectors.md (R152). -/
theorem test_movBLoadGbr : leaves (step (put (({ start 0x1000 0xC4FF with gbr := 0x00004000 } : State)) 0x40FF [0x81]))
    (fun t => t.reg 0 == 0xFFFFFF81 && t.pc == 0x1002) = true := by decide

/-- Vector `MOV.W @(1,GBR),R0` of 95_test_vectors.md (R153). -/
theorem test_movWLoadGbr : leaves (step (put (({ start 0x1000 0xC501 with gbr := 0x00004000 } : State)) 0x4002 [0x01, 0x02]))
    (fun t => t.reg 0 == 0x00000102 && t.pc == 0x1002) = true := by decide

/-- Vector `MOVA @(2,PC),R0 at 0x1002` of 95_test_vectors.md (R155). -/
theorem test_mova : leaves (step (start 0x1002 0xC702))
    (fun t => t.reg 0 == 0x0000100C && t.pc == 0x1004) = true := by decide

/-- Vector `MOVA @(2,PC),R0 at 0x1000` of 95_test_vectors.md (R155). -/
theorem test_mova_again : leaves (step (start 0x1000 0xC702))
    (fun t => t.reg 0 == 0x0000100C && t.pc == 0x1002) = true := by decide

/-- Vector `MOVT R3 (T=1)` of 95_test_vectors.md (R156). -/
theorem test_movt : leaves (step ((start 0x1000 0x0329) |>.setT true |>.setReg 3 0xFFFFFFFF))
    (fun t => t.reg 3 == 0x00000001 && t.pc == 0x1002) = true := by decide

/-- Vector `MOVT R3 (T=0)` of 95_test_vectors.md (R156). -/
theorem test_movt_again : leaves (step ((start 0x1000 0x0329) |>.setT false |>.setReg 3 0xFFFFFFFF))
    (fun t => t.reg 3 == 0x00000000 && t.pc == 0x1002) = true := by decide

/-- Vector `SWAP.B R1,R2` of 95_test_vectors.md (R157). -/
theorem test_swapB : leaves (step ((start 0x1000 0x6218) |>.setReg 1 0x12345678))
    (fun t => t.reg 2 == 0x12347856 && t.pc == 0x1002) = true := by decide

/-- Vector `SWAP.W R1,R2` of 95_test_vectors.md (R158). -/
theorem test_swapW : leaves (step ((start 0x1000 0x6219) |>.setReg 1 0x12345678))
    (fun t => t.reg 2 == 0x56781234 && t.pc == 0x1002) = true := by decide

/-- Vector `XTRCT R1,R2` of 95_test_vectors.md (R159). -/
theorem test_xtrct : leaves (step ((start 0x1000 0x221D) |>.setReg 1 0x01234567 |>.setReg 2 0x89ABCDEF))
    (fun t => t.reg 2 == 0x456789AB && t.pc == 0x1002) = true := by decide

/-- Vector `ADD R1,R2 (wrap)` of 95_test_vectors.md (R171). -/
theorem test_add : leaves (step ((start 0x1000 0x321C) |>.setReg 1 0xFFFFFFFF |>.setReg 2 0x00000002 |>.setT false))
    (fun t => t.reg 2 == 0x00000001 && !t.flagT && t.pc == 0x1002) = true := by decide

/-- Vector `ADD #-1,R2` of 95_test_vectors.md (R172). -/
theorem test_addImm : leaves (step ((start 0x1000 0x72FF) |>.setReg 2 0x00000000))
    (fun t => t.reg 2 == 0xFFFFFFFF && t.pc == 0x1002) = true := by decide

/-- Vector `ADDC R1,R2 (T=1)` of 95_test_vectors.md (R173). -/
theorem test_addc : leaves (step ((start 0x1000 0x321E) |>.setReg 1 0xFFFFFFFF |>.setReg 2 0x00000000 |>.setT true))
    (fun t => t.reg 2 == 0x00000000 && t.flagT && t.pc == 0x1002) = true := by decide

/-- Vector `ADDC R1,R2 (T=0)` of 95_test_vectors.md (R173). -/
theorem test_addc_again : leaves (step ((start 0x1000 0x321E) |>.setReg 1 0xFFFFFFFF |>.setReg 2 0x00000000 |>.setT false))
    (fun t => t.reg 2 == 0xFFFFFFFF && !t.flagT && t.pc == 0x1002) = true := by decide

/-- Vector `ADDV R1,R2 (pos ovf)` of 95_test_vectors.md (R174). -/
theorem test_addv : leaves (step ((start 0x1000 0x321F) |>.setReg 1 0x7FFFFFFF |>.setReg 2 0x00000001 |>.setT false))
    (fun t => t.reg 2 == 0x80000000 && t.flagT && t.pc == 0x1002) = true := by decide

/-- Vector `ADDV R1,R2 (neg ovf)` of 95_test_vectors.md (R174). -/
theorem test_addv_again : leaves (step ((start 0x1000 0x321F) |>.setReg 1 0x80000000 |>.setReg 2 0xFFFFFFFF |>.setT false))
    (fun t => t.reg 2 == 0x7FFFFFFF && t.flagT && t.pc == 0x1002) = true := by decide

/-- Vector `CMP/EQ #FF,R0 (R0=-1)` of 95_test_vectors.md (R175). -/
theorem test_cmpEqImm : leaves (step ((start 0x1000 0x88FF) |>.setReg 0 0xFFFFFFFF |>.setT false))
    (fun t => t.flagT && t.pc == 0x1002) = true := by decide

/-- Vector `CMP/EQ #FF,R0 (R0=255)` of 95_test_vectors.md (R175). -/
theorem test_cmpEqImm_again : leaves (step ((start 0x1000 0x88FF) |>.setReg 0 0x000000FF |>.setT true))
    (fun t => !t.flagT && t.pc == 0x1002) = true := by decide

/-- Vector `CMP/EQ R1,R2 (R2=0x80000000,R1=1)` of 95_test_vectors.md (R176). -/
theorem test_cmpEq : leaves (step ((start 0x1000 0x3210) |>.setReg 1 0x00000001 |>.setReg 2 0x80000000 |>.setT false))
    (fun t => !t.flagT && t.pc == 0x1002) = true := by decide

/-- Vector `CMP/EQ R1,R2 (equal)` of 95_test_vectors.md (R176). -/
theorem test_cmpEq_again : leaves (step ((start 0x1000 0x3210) |>.setReg 1 0x00000005 |>.setReg 2 0x00000005 |>.setT false))
    (fun t => t.flagT && t.pc == 0x1002) = true := by decide

/-- Vector `CMP/HS R1,R2 (R2=0x80000000,R1=1)` of 95_test_vectors.md (R177). -/
theorem test_cmpHs : leaves (step ((start 0x1000 0x3212) |>.setReg 1 0x00000001 |>.setReg 2 0x80000000 |>.setT false))
    (fun t => t.flagT && t.pc == 0x1002) = true := by decide

/-- Vector `CMP/HS R1,R2 (equal)` of 95_test_vectors.md (R177). -/
theorem test_cmpHs_again : leaves (step ((start 0x1000 0x3212) |>.setReg 1 0x00000005 |>.setReg 2 0x00000005 |>.setT false))
    (fun t => t.flagT && t.pc == 0x1002) = true := by decide

/-- Vector `CMP/GE R1,R2 (R2=0x80000000,R1=1)` of 95_test_vectors.md (R178). -/
theorem test_cmpGe : leaves (step ((start 0x1000 0x3213) |>.setReg 1 0x00000001 |>.setReg 2 0x80000000 |>.setT false))
    (fun t => !t.flagT && t.pc == 0x1002) = true := by decide

/-- Vector `CMP/GE R1,R2 (equal)` of 95_test_vectors.md (R178). -/
theorem test_cmpGe_again : leaves (step ((start 0x1000 0x3213) |>.setReg 1 0x00000005 |>.setReg 2 0x00000005 |>.setT false))
    (fun t => t.flagT && t.pc == 0x1002) = true := by decide

/-- Vector `CMP/HI R1,R2 (R2=0x80000000,R1=1)` of 95_test_vectors.md (R179). -/
theorem test_cmpHi : leaves (step ((start 0x1000 0x3216) |>.setReg 1 0x00000001 |>.setReg 2 0x80000000 |>.setT false))
    (fun t => t.flagT && t.pc == 0x1002) = true := by decide

/-- Vector `CMP/HI R1,R2 (equal)` of 95_test_vectors.md (R179). -/
theorem test_cmpHi_again : leaves (step ((start 0x1000 0x3216) |>.setReg 1 0x00000005 |>.setReg 2 0x00000005 |>.setT false))
    (fun t => !t.flagT && t.pc == 0x1002) = true := by decide

/-- Vector `CMP/GT R1,R2 (R2=0x80000000,R1=1)` of 95_test_vectors.md (R180). -/
theorem test_cmpGt : leaves (step ((start 0x1000 0x3217) |>.setReg 1 0x00000001 |>.setReg 2 0x80000000 |>.setT false))
    (fun t => !t.flagT && t.pc == 0x1002) = true := by decide

/-- Vector `CMP/GT R1,R2 (equal)` of 95_test_vectors.md (R180). -/
theorem test_cmpGt_again : leaves (step ((start 0x1000 0x3217) |>.setReg 1 0x00000005 |>.setReg 2 0x00000005 |>.setT false))
    (fun t => !t.flagT && t.pc == 0x1002) = true := by decide

/-- Vector `CMP/PZ R1 (0)` of 95_test_vectors.md (R181). -/
theorem test_cmpPz : leaves (step ((start 0x1000 0x4111) |>.setReg 1 0x00000000 |>.setT false))
    (fun t => t.flagT && t.pc == 0x1002) = true := by decide

/-- Vector `CMP/PL R1 (0)` of 95_test_vectors.md (R182). -/
theorem test_cmpPl : leaves (step ((start 0x1000 0x4115) |>.setReg 1 0x00000000 |>.setT true))
    (fun t => !t.flagT && t.pc == 0x1002) = true := by decide

/-- Vector `CMP/PL R1 (0x80000000)` of 95_test_vectors.md (R182). -/
theorem test_cmpPl_again : leaves (step ((start 0x1000 0x4115) |>.setReg 1 0x80000000 |>.setT true))
    (fun t => !t.flagT && t.pc == 0x1002) = true := by decide

/-- Vector `CMP/STR R1,R2 (byte 1 equal)` of 95_test_vectors.md (R183). -/
theorem test_cmpStr : leaves (step ((start 0x1000 0x221C) |>.setReg 1 0x11225544 |>.setReg 2 0xAABB55CC |>.setT false))
    (fun t => t.flagT && t.pc == 0x1002) = true := by decide

/-- Vector `CMP/STR R1,R2 (none)` of 95_test_vectors.md (R183). -/
theorem test_cmpStr_again : leaves (step ((start 0x1000 0x221C) |>.setReg 1 0x11223344 |>.setReg 2 0x44112233 |>.setT true))
    (fun t => !t.flagT && t.pc == 0x1002) = true := by decide

/-- Vector `DIV0S R1,R2` of 95_test_vectors.md (R184). -/
theorem test_div0s : leaves (step ((start 0x1000 0x2217) |>.setReg 1 0x80000000 |>.setReg 2 0x00000001 |>.setT false))
    (fun t => t.flagM && !t.flagQ && t.flagT && t.pc == 0x1002) = true := by decide

/-- Vector `DIV0S R1,R2 (both negative)` of 95_test_vectors.md (R184). -/
theorem test_div0s_again : leaves (step ((start 0x1000 0x2217) |>.setReg 1 0x80000000 |>.setReg 2 0xFFFFFFFF |>.setT true))
    (fun t => t.flagM && t.flagQ && !t.flagT && t.pc == 0x1002) = true := by decide

/-- Vector `DIV0U` of 95_test_vectors.md (R185). -/
theorem test_div0u : leaves (step ((start 0x1000 0x0019) |>.setT true |>.setM true |>.setQ true))
    (fun t => !t.flagM && !t.flagQ && !t.flagT && t.pc == 0x1002) = true := by decide

/-- Vector `DIV1 R0,R1 (Q=M=0,T=0: subtract, no borrow)` of 95_test_vectors.md (R186). -/
theorem test_div1 : leaves (step ((start 0x1000 0x3104) |>.setReg 0 0x00030000 |>.setReg 1 0x00020000 |>.setT false |>.setM false |>.setQ false))
    (fun t => t.reg 1 == 0x00010000 && !t.flagQ && t.flagT && t.pc == 0x1002) = true := by decide

/-- Vector `DIV1 R0,R1 (Q=M=0,T=0: subtract, borrow)` of 95_test_vectors.md (R186). -/
theorem test_div1_again : leaves (step ((start 0x1000 0x3104) |>.setReg 0 0x00030000 |>.setReg 1 0x00010000 |>.setT false |>.setM false |>.setQ false))
    (fun t => t.reg 1 == 0xFFFF0000 && t.flagQ && !t.flagT && t.pc == 0x1002) = true := by decide

/-- Vector `DMULS.L R1,R2 (-1 * -1)` of 95_test_vectors.md (R188). -/
theorem test_dmulsL : leaves (step ((start 0x1000 0x321D) |>.setReg 1 0xFFFFFFFF |>.setReg 2 0xFFFFFFFF))
    (fun t => t.mach == 0x00000000 && t.macl == 0x00000001 && t.pc == 0x1002) = true := by decide

/-- Vector `DMULS.L R1,R2 (min * min)` of 95_test_vectors.md (R188). -/
theorem test_dmulsL_again : leaves (step ((start 0x1000 0x321D) |>.setReg 1 0x80000000 |>.setReg 2 0x80000000))
    (fun t => t.mach == 0x40000000 && t.macl == 0x00000000 && t.pc == 0x1002) = true := by decide

/-- Vector `DMULU.L R1,R2 (max * max)` of 95_test_vectors.md (R189). -/
theorem test_dmuluL : leaves (step ((start 0x1000 0x3215) |>.setReg 1 0xFFFFFFFF |>.setReg 2 0xFFFFFFFF))
    (fun t => t.mach == 0xFFFFFFFE && t.macl == 0x00000001 && t.pc == 0x1002) = true := by decide

/-- Vector `MUL.L R1,R2` of 95_test_vectors.md (R197). -/
theorem test_mulL : leaves (step (({ start 0x1000 0x0217 with mach := 0x00000055 } : State) |>.setReg 1 0x00010001 |>.setReg 2 0xFFFF0003))
    (fun t => t.mach == 0x00000055 && t.macl == 0x00020003 && t.pc == 0x1002) = true := by decide

/-- Vector `MULS.W R1,R2` of 95_test_vectors.md (R198). -/
theorem test_mulsW : leaves (step (({ start 0x1000 0x221F with mach := 0x00000055 } : State) |>.setReg 1 0x1234FFFF |>.setReg 2 0xABCD8000))
    (fun t => t.mach == 0x00000055 && t.macl == 0x00008000 && t.pc == 0x1002) = true := by decide

/-- Vector `MULU.W R1,R2` of 95_test_vectors.md (R199). -/
theorem test_muluW : leaves (step (({ start 0x1000 0x221E with mach := 0x00000055 } : State) |>.setReg 1 0x1234FFFF |>.setReg 2 0xABCD8000))
    (fun t => t.mach == 0x00000055 && t.macl == 0x7FFF8000 && t.pc == 0x1002) = true := by decide

/-- Vector `MAC.L @R4+,@R5+ S=0` of 95_test_vectors.md (R195). -/
theorem test_macL : leaves (step (put (put (({ start 0x1000 0x054F with mach := 0x7FFFFFFF, macl := 0xFFFFFFFF } : State) |>.setReg 4 0x00002000 |>.setReg 5 0x00002010 |>.setS false) 0x2000 [0x00, 0x00, 0x00, 0x01]) 0x2010 [0x00, 0x00, 0x00, 0x01]))
    (fun t => t.reg 4 == 0x00002004 && t.reg 5 == 0x00002014 && t.mach == 0x80000000 && t.macl == 0x00000000 && t.pc == 0x1002) = true := by decide

/-- Vector `MAC.W @R4+,@R5+ S=0 (-1 * 1 into 0)` of 95_test_vectors.md (R196). -/
theorem test_macW : leaves (step (put (put (({ start 0x1000 0x454F with mach := 0x00000000, macl := 0x00000000 } : State) |>.setReg 4 0x00002000 |>.setReg 5 0x00002010 |>.setS false) 0x2000 [0xFF, 0xFF]) 0x2010 [0x00, 0x01]))
    (fun t => t.reg 4 == 0x00002002 && t.reg 5 == 0x00002012 && t.mach == 0xFFFFFFFF && t.macl == 0xFFFFFFFF && t.pc == 0x1002) = true := by decide

/-- Vector `MAC.W @R4+,@R5+ S=1 (overflow)` of 95_test_vectors.md (R196). -/
theorem test_macW_again : leaves (step (put (put (({ start 0x1000 0x454F with mach := 0x00000000, macl := 0x7FFFFFFF } : State) |>.setReg 4 0x00002000 |>.setReg 5 0x00002010 |>.setS true) 0x2000 [0x00, 0x02]) 0x2010 [0x00, 0x03]))
    (fun t => t.reg 4 == 0x00002002 && t.reg 5 == 0x00002012 && t.mach == 0x00000001 && t.macl == 0x7FFFFFFF && t.pc == 0x1002) = true := by decide

/-- Vector `MAC.L @R4+,@R5+ S=0 (min * min into 0)` of 95_test_vectors.md (R195). -/
theorem test_macL_again : leaves (step (put (put (({ start 0x1000 0x054F with mach := 0x00000000, macl := 0x00000000 } : State) |>.setReg 4 0x00002000 |>.setReg 5 0x00002010 |>.setS false) 0x2000 [0x80, 0x00, 0x00, 0x00]) 0x2010 [0x80, 0x00, 0x00, 0x00]))
    (fun t => t.reg 4 == 0x00002004 && t.reg 5 == 0x00002014 && t.mach == 0x40000000 && t.macl == 0x00000000 && t.pc == 0x1002) = true := by decide

/-- Vector `NEG R1,R2 (min)` of 95_test_vectors.md (R200). -/
theorem test_neg : leaves (step ((start 0x1000 0x621B) |>.setReg 1 0x80000000))
    (fun t => t.reg 2 == 0x80000000 && !t.flagT && t.pc == 0x1002) = true := by decide

/-- Vector `NEG R1,R2 (1)` of 95_test_vectors.md (R200). -/
theorem test_neg_again : leaves (step ((start 0x1000 0x621B) |>.setReg 1 0x00000001))
    (fun t => t.reg 2 == 0xFFFFFFFF && t.pc == 0x1002) = true := by decide

/-- Vector `NEGC R1,R2 (R1=0,T=0)` of 95_test_vectors.md (R201). -/
theorem test_negc : leaves (step ((start 0x1000 0x621A) |>.setReg 1 0x00000000 |>.setT false |>.setReg 2 0x00000007))
    (fun t => t.reg 2 == 0x00000000 && !t.flagT && t.pc == 0x1002) = true := by decide

/-- Vector `NEGC R1,R2 (R1=0,T=1)` of 95_test_vectors.md (R201). -/
theorem test_negc_again : leaves (step ((start 0x1000 0x621A) |>.setReg 1 0x00000000 |>.setT true))
    (fun t => t.reg 2 == 0xFFFFFFFF && t.flagT && t.pc == 0x1002) = true := by decide

/-- Vector `SUB R1,R2 (wrap)` of 95_test_vectors.md (R202). -/
theorem test_sub : leaves (step ((start 0x1000 0x3218) |>.setReg 1 0x00000001 |>.setReg 2 0x00000000))
    (fun t => t.reg 2 == 0xFFFFFFFF && t.pc == 0x1002) = true := by decide

/-- Vector `SUBC R1,R2 (T=1)` of 95_test_vectors.md (R203). -/
theorem test_subc : leaves (step ((start 0x1000 0x321A) |>.setReg 1 0x00000000 |>.setReg 2 0x00000000 |>.setT true))
    (fun t => t.reg 2 == 0xFFFFFFFF && t.flagT && t.pc == 0x1002) = true := by decide

/-- Vector `SUBC R1,R2 (T=1, R1=max)` of 95_test_vectors.md (R203). -/
theorem test_subc_again : leaves (step ((start 0x1000 0x321A) |>.setReg 1 0xFFFFFFFF |>.setReg 2 0x00000000 |>.setT true))
    (fun t => t.reg 2 == 0x00000000 && t.flagT && t.pc == 0x1002) = true := by decide

/-- Vector `SUBV R1,R2 (min - 1)` of 95_test_vectors.md (R204). -/
theorem test_subv : leaves (step ((start 0x1000 0x321B) |>.setReg 1 0x00000001 |>.setReg 2 0x80000000 |>.setT false))
    (fun t => t.reg 2 == 0x7FFFFFFF && t.flagT && t.pc == 0x1002) = true := by decide

/-- Vector `SUBV R1,R2 (max - -1)` of 95_test_vectors.md (R204). -/
theorem test_subv_again : leaves (step ((start 0x1000 0x321B) |>.setReg 1 0xFFFFFFFF |>.setReg 2 0x7FFFFFFF |>.setT false))
    (fun t => t.reg 2 == 0x80000000 && t.flagT && t.pc == 0x1002) = true := by decide

/-- Vector `DT R1 (1)` of 95_test_vectors.md (R190). -/
theorem test_dt : leaves (step ((start 0x1000 0x4110) |>.setReg 1 0x00000001 |>.setT false))
    (fun t => t.reg 1 == 0x00000000 && t.flagT && t.pc == 0x1002) = true := by decide

/-- Vector `DT R1 (0)` of 95_test_vectors.md (R190). -/
theorem test_dt_again : leaves (step ((start 0x1000 0x4110) |>.setReg 1 0x00000000 |>.setT true))
    (fun t => t.reg 1 == 0xFFFFFFFF && !t.flagT && t.pc == 0x1002) = true := by decide

/-- Vector `CMP/PZ R1 (0x80000000)` of 95_test_vectors.md (R181). -/
theorem test_cmpPz_again : leaves (step ((start 0x1000 0x4111) |>.setReg 1 0x80000000 |>.setT true))
    (fun t => !t.flagT && t.pc == 0x1002) = true := by decide

/-- Vector `EXTS.B R1,R2` of 95_test_vectors.md (R191). -/
theorem test_extsB : leaves (step ((start 0x1000 0x621E) |>.setReg 1 0x12345680))
    (fun t => t.reg 2 == 0xFFFFFF80 && t.pc == 0x1002) = true := by decide

/-- Vector `EXTS.W R1,R2` of 95_test_vectors.md (R192). -/
theorem test_extsW : leaves (step ((start 0x1000 0x621F) |>.setReg 1 0x12348000))
    (fun t => t.reg 2 == 0xFFFF8000 && t.pc == 0x1002) = true := by decide

/-- Vector `EXTU.B R1,R2` of 95_test_vectors.md (R193). -/
theorem test_extuB : leaves (step ((start 0x1000 0x621C) |>.setReg 1 0x123456FF))
    (fun t => t.reg 2 == 0x000000FF && t.pc == 0x1002) = true := by decide

/-- Vector `EXTU.W R1,R2` of 95_test_vectors.md (R194). -/
theorem test_extuW : leaves (step ((start 0x1000 0x621D) |>.setReg 1 0x1234FFFF))
    (fun t => t.reg 2 == 0x0000FFFF && t.pc == 0x1002) = true := by decide

/-- Vector `AND #FF,R0` of 95_test_vectors.md (R222). -/
theorem test_andImm : leaves (step ((start 0x1000 0xC9FF) |>.setReg 0 0xFFFFFFFF))
    (fun t => t.reg 0 == 0x000000FF && t.pc == 0x1002) = true := by decide

/-- Vector `OR #FF,R0` of 95_test_vectors.md (R226). -/
theorem test_orImm : leaves (step ((start 0x1000 0xCBFF) |>.setReg 0 0x80000000))
    (fun t => t.reg 0 == 0x800000FF && t.pc == 0x1002) = true := by decide

/-- Vector `AND R1,R2` of 95_test_vectors.md (R221). -/
theorem test_and : leaves (step ((start 0x1000 0x2219) |>.setReg 1 0xFF00FF00 |>.setReg 2 0x12345678))
    (fun t => t.reg 2 == 0x12005600 && t.pc == 0x1002) = true := by decide

/-- Vector `OR R1,R2` of 95_test_vectors.md (R225). -/
theorem test_or : leaves (step ((start 0x1000 0x221B) |>.setReg 1 0xFF00FF00 |>.setReg 2 0x12345678))
    (fun t => t.reg 2 == 0xFF34FF78 && t.pc == 0x1002) = true := by decide

/-- Vector `XOR R1,R2` of 95_test_vectors.md (R232). -/
theorem test_xor : leaves (step ((start 0x1000 0x221A) |>.setReg 1 0xFF00FF00 |>.setReg 2 0x12345678))
    (fun t => t.reg 2 == 0xED34A978 && t.pc == 0x1002) = true := by decide

/-- Vector `XOR #FF,R0` of 95_test_vectors.md (R233). -/
theorem test_xorImm : leaves (step ((start 0x1000 0xCAFF) |>.setReg 0 0xFFFFFFFF))
    (fun t => t.reg 0 == 0xFFFFFF00 && t.pc == 0x1002) = true := by decide

/-- Vector `XOR R1,R1` of 95_test_vectors.md (R232). -/
theorem test_xor_again : leaves (step ((start 0x1000 0x211A) |>.setReg 1 0x12345678))
    (fun t => t.reg 1 == 0x00000000 && t.pc == 0x1002) = true := by decide

/-- Vector `NOT R1,R1` of 95_test_vectors.md (R224). -/
theorem test_not : leaves (step ((start 0x1000 0x6117) |>.setReg 1 0x00000000))
    (fun t => t.reg 1 == 0xFFFFFFFF && t.pc == 0x1002) = true := by decide

/-- Vector `TST R1,R2 (disjoint)` of 95_test_vectors.md (R229). -/
theorem test_tst : leaves (step ((start 0x1000 0x2218) |>.setReg 1 0xF0F0F0F0 |>.setReg 2 0x0F0F0F0F |>.setT false))
    (fun t => t.flagT && t.pc == 0x1002) = true := by decide

/-- Vector `TST R1,R1 (zero)` of 95_test_vectors.md (R229). -/
theorem test_tst_again : leaves (step ((start 0x1000 0x2118) |>.setReg 1 0x00000000 |>.setT false))
    (fun t => t.flagT && t.pc == 0x1002) = true := by decide

/-- Vector `TST #FF,R0 (R0=0xFFFFFF00)` of 95_test_vectors.md (R230). -/
theorem test_tstImm : leaves (step ((start 0x1000 0xC8FF) |>.setReg 0 0xFFFFFF00 |>.setT false))
    (fun t => t.flagT && t.pc == 0x1002) = true := by decide

/-- Vector `TST #80,R0` of 95_test_vectors.md (R230). -/
theorem test_tstImm_again : leaves (step ((start 0x1000 0xC880) |>.setReg 0 0x00000080 |>.setT true))
    (fun t => !t.flagT && t.pc == 0x1002) = true := by decide

/-- Vector `TAS.B @R1 (zero byte)` of 95_test_vectors.md (R228). -/
theorem test_tasB : leaves (step (put ((start 0x1000 0x411B) |>.setReg 1 0x00002001 |>.setT false) 0x2001 [0x00]))
    (fun t => t.mem.read 0x2001 == some 0x80 && t.flagT && t.pc == 0x1002) = true := by decide

/-- Vector `TAS.B @R1 (0x80)` of 95_test_vectors.md (R228). -/
theorem test_tasB_again : leaves (step (put ((start 0x1000 0x411B) |>.setReg 1 0x00002001 |>.setT true) 0x2001 [0x80]))
    (fun t => !t.flagT && t.pc == 0x1002) = true := by decide

/-- Vector `AND.B #0F,@(R0,GBR)` of 95_test_vectors.md (R223). -/
theorem test_andB : leaves (step (put (({ start 0x1000 0xCD0F with gbr := 0x00002000 } : State) |>.setReg 0 0x00000004) 0x2004 [0xF3]))
    (fun t => t.mem.read 0x2004 == some 0x03 && t.pc == 0x1002) = true := by decide

/-- Vector `OR.B #80,@(R0,GBR)` of 95_test_vectors.md (R227). -/
theorem test_orB : leaves (step (put (({ start 0x1000 0xCF80 with gbr := 0x00002000 } : State) |>.setReg 0 0x00000004) 0x2004 [0x03]))
    (fun t => t.mem.read 0x2004 == some 0x83 && t.pc == 0x1002) = true := by decide

/-- Vector `XOR.B #FF,@(R0,GBR)` of 95_test_vectors.md (R234). -/
theorem test_xorB : leaves (step (put (({ start 0x1000 0xCEFF with gbr := 0x00002000 } : State) |>.setReg 0 0x00000004) 0x2004 [0x0F]))
    (fun t => t.mem.read 0x2004 == some 0xF0 && t.pc == 0x1002) = true := by decide

/-- Vector `TST.B #01,@(R0,GBR)` of 95_test_vectors.md (R231). -/
theorem test_tstB : leaves (step (put (({ start 0x1000 0xCC01 with gbr := 0x00002000 } : State) |>.setReg 0 0x00000004 |>.setT false) 0x2004 [0xFE]))
    (fun t => t.flagT && t.pc == 0x1002) = true := by decide

/-- Vector `TST.B #01,@(R0,GBR) (bit set)` of 95_test_vectors.md (R231). -/
theorem test_tstB_again : leaves (step (put (({ start 0x1000 0xCC01 with gbr := 0x00002005 } : State) |>.setReg 0 0xFFFFFFFF |>.setT true) 0x2004 [0x01]))
    (fun t => !t.flagT && t.pc == 0x1002) = true := by decide

/-- Vector `ROTL R1 (0x80000001, T=0)` of 95_test_vectors.md (R241). -/
theorem test_rotl : leaves (step ((start 0x1000 0x4104) |>.setReg 1 0x80000001 |>.setT false))
    (fun t => t.reg 1 == 0x00000003 && t.flagT && t.pc == 0x1002) = true := by decide

/-- Vector `ROTR R1 (0x80000001, T=0)` of 95_test_vectors.md (R242). -/
theorem test_rotr : leaves (step ((start 0x1000 0x4105) |>.setReg 1 0x80000001 |>.setT false))
    (fun t => t.reg 1 == 0xC0000000 && t.flagT && t.pc == 0x1002) = true := by decide

/-- Vector `ROTCL R1 (0x80000001, T=0)` of 95_test_vectors.md (R243). -/
theorem test_rotcl : leaves (step ((start 0x1000 0x4124) |>.setReg 1 0x80000001 |>.setT false))
    (fun t => t.reg 1 == 0x00000002 && t.flagT && t.pc == 0x1002) = true := by decide

/-- Vector `ROTCR R1 (0x80000001, T=0)` of 95_test_vectors.md (R244). -/
theorem test_rotcr : leaves (step ((start 0x1000 0x4125) |>.setReg 1 0x80000001 |>.setT false))
    (fun t => t.reg 1 == 0x40000000 && t.flagT && t.pc == 0x1002) = true := by decide

/-- Vector `SHAL R1 (0x80000001, T=0)` of 95_test_vectors.md (R245). -/
theorem test_shal : leaves (step ((start 0x1000 0x4120) |>.setReg 1 0x80000001 |>.setT false))
    (fun t => t.reg 1 == 0x00000002 && t.flagT && t.pc == 0x1002) = true := by decide

/-- Vector `SHAR R1 (0x80000001, T=0)` of 95_test_vectors.md (R246). -/
theorem test_shar : leaves (step ((start 0x1000 0x4121) |>.setReg 1 0x80000001 |>.setT false))
    (fun t => t.reg 1 == 0xC0000000 && t.flagT && t.pc == 0x1002) = true := by decide

/-- Vector `SHLL R1 (0x80000001, T=0)` of 95_test_vectors.md (R248). -/
theorem test_shll : leaves (step ((start 0x1000 0x4100) |>.setReg 1 0x80000001 |>.setT false))
    (fun t => t.reg 1 == 0x00000002 && t.flagT && t.pc == 0x1002) = true := by decide

/-- Vector `SHLR R1 (0x80000001, T=0)` of 95_test_vectors.md (R249). -/
theorem test_shlr : leaves (step ((start 0x1000 0x4101) |>.setReg 1 0x80000001 |>.setT false))
    (fun t => t.reg 1 == 0x40000000 && t.flagT && t.pc == 0x1002) = true := by decide

/-- Vector `ROTCL R1 (0, T=1)` of 95_test_vectors.md (R243). -/
theorem test_rotcl_again : leaves (step ((start 0x1000 0x4124) |>.setReg 1 0x00000000 |>.setT true))
    (fun t => t.reg 1 == 0x00000001 && !t.flagT && t.pc == 0x1002) = true := by decide

/-- Vector `ROTCR R1 (0, T=1)` of 95_test_vectors.md (R244). -/
theorem test_rotcr_again : leaves (step ((start 0x1000 0x4125) |>.setReg 1 0x00000000 |>.setT true))
    (fun t => t.reg 1 == 0x80000000 && !t.flagT && t.pc == 0x1002) = true := by decide

/-- Vector `SHLL2 R1 (0x87654321, T=1)` of 95_test_vectors.md (R250). -/
theorem test_shll2 : leaves (step ((start 0x1000 0x4108) |>.setReg 1 0x87654321 |>.setT true))
    (fun t => t.reg 1 == 0x1D950C84 && t.flagT && t.pc == 0x1002) = true := by decide

/-- Vector `SHLL8 R1 (0x87654321, T=1)` of 95_test_vectors.md (R251). -/
theorem test_shll8 : leaves (step ((start 0x1000 0x4118) |>.setReg 1 0x87654321 |>.setT true))
    (fun t => t.reg 1 == 0x65432100 && t.flagT && t.pc == 0x1002) = true := by decide

/-- Vector `SHLL16 R1 (0x87654321, T=1)` of 95_test_vectors.md (R252). -/
theorem test_shll16 : leaves (step ((start 0x1000 0x4128) |>.setReg 1 0x87654321 |>.setT true))
    (fun t => t.reg 1 == 0x43210000 && t.flagT && t.pc == 0x1002) = true := by decide

/-- Vector `SHLR2 R1 (0x87654321, T=1)` of 95_test_vectors.md (R253). -/
theorem test_shlr2 : leaves (step ((start 0x1000 0x4109) |>.setReg 1 0x87654321 |>.setT true))
    (fun t => t.reg 1 == 0x21D950C8 && t.flagT && t.pc == 0x1002) = true := by decide

/-- Vector `SHLR8 R1 (0x87654321, T=1)` of 95_test_vectors.md (R254). -/
theorem test_shlr8 : leaves (step ((start 0x1000 0x4119) |>.setReg 1 0x87654321 |>.setT true))
    (fun t => t.reg 1 == 0x00876543 && t.flagT && t.pc == 0x1002) = true := by decide

/-- Vector `SHLR16 R1 (0x87654321, T=1)` of 95_test_vectors.md (R255). -/
theorem test_shlr16 : leaves (step ((start 0x1000 0x4129) |>.setReg 1 0x87654321 |>.setT true))
    (fun t => t.reg 1 == 0x00008765 && t.flagT && t.pc == 0x1002) = true := by decide

/-- Vector `SHAD R1,R2 (R1=0x00000000)` of 95_test_vectors.md (R247). -/
theorem test_shad : leaves (step ((start 0x1000 0x421C) |>.setReg 1 0x00000000 |>.setReg 2 0x80000001))
    (fun t => t.reg 2 == 0x80000001 && t.pc == 0x1002) = true := by decide

/-- Vector `SHLD R1,R2 (R1=0x00000000)` of 95_test_vectors.md (R256). -/
theorem test_shld : leaves (step ((start 0x1000 0x421D) |>.setReg 1 0x00000000 |>.setReg 2 0x80000001))
    (fun t => t.reg 2 == 0x80000001 && t.pc == 0x1002) = true := by decide

/-- Vector `SHAD R1,R2 (R1=0x00000001)` of 95_test_vectors.md (R247). -/
theorem test_shad_again : leaves (step ((start 0x1000 0x421C) |>.setReg 1 0x00000001 |>.setReg 2 0x80000001))
    (fun t => t.reg 2 == 0x00000002 && t.pc == 0x1002) = true := by decide

/-- Vector `SHLD R1,R2 (R1=0x00000001)` of 95_test_vectors.md (R256). -/
theorem test_shld_again : leaves (step ((start 0x1000 0x421D) |>.setReg 1 0x00000001 |>.setReg 2 0x80000001))
    (fun t => t.reg 2 == 0x00000002 && t.pc == 0x1002) = true := by decide

/-- Vector `BT +4 (T=1) at 0x1000` of 95_test_vectors.md (R265). -/
theorem test_bt : leaves (step ((start 0x1000 0x8902) |>.setT true))
    (fun t => t.pc == 0x00001008) = true := by decide

/-- Vector `BT +4 (T=0)` of 95_test_vectors.md (R265). -/
theorem test_bt_again : leaves (step ((start 0x1000 0x8902) |>.setT false))
    (fun t => t.pc == 0x00001002) = true := by decide

/-- Vector `BF +4 (T=1)` of 95_test_vectors.md (R263). -/
theorem test_bf : leaves (step ((start 0x1000 0x8B02) |>.setT true))
    (fun t => t.pc == 0x00001002) = true := by decide

/-- Vector `BF -2 words (T=0): d8=0xFC` of 95_test_vectors.md (R263). -/
theorem test_bf_again : leaves (step ((start 0x1000 0x8BFC) |>.setT false))
    (fun t => t.pc == 0x00000FFC) = true := by decide

/-- Vector `LDC R1,SR (all ones)` of 95_test_vectors.md (R287). -/
theorem test_ldcSr : leaves (step ((start 0x1000 0x410E) |>.setReg 1 0xFFFFFFFF))
    (fun t => t.sr == 0x700003F3 && t.pc == 0x1002) = true := by decide

/-- Vector `LDC R1,SR (0x40000000 -> RB=0)` of 95_test_vectors.md (R287). -/
theorem test_ldcSr_again : leaves (step (({ start 0x1000 0x410E with sr := 0x700000F0 } : State) |>.setReg 1 0x40000000))
    (fun t => t.sr == 0x40000000 && t.pc == 0x1002) = true := by decide

/-- Vector `STC SR,R1` of 95_test_vectors.md (R308). -/
theorem test_stcSr : leaves (step (({ start 0x1000 0x0102 with sr := 0x700003F3 } : State)))
    (fun t => t.reg 1 == 0x700003F3 && t.pc == 0x1002) = true := by decide

/-- Vector `LDC R1,GBR in user mode` of 95_test_vectors.md (R288). -/
theorem test_ldcGbr : leaves (step (({ start 0x1000 0x411E with sr := 0x00000000 } : State) |>.setReg 1 0x00001234))
    (fun t => t.gbr == 0x00001234 && t.pc == 0x1002) = true := by decide

/-- Vector `LDC R1,VBR in user mode` of 95_test_vectors.md (R289). -/
theorem test_ldcVbr : leaves (step (({ start 0x1000 0x412E with sr := 0x00000001, vbr := 0x00008000 } : State) |>.setReg 1 0x00001234))
    (fun t => t.ssr == 0x00000001 && t.spc == 0x00001000 && t.expevt == 0x00000180 && t.sr == 0x70000001 && t.pc == 0x00008100) = true := by decide

/-- Vector `STC SR,R1 in user mode` of 95_test_vectors.md (R308). -/
theorem test_stcSr_again : leaves (step (({ start 0x1000 0x0102 with sr := 0x00000000, vbr := 0x00008000 } : State)))
    (fun t => t.spc == 0x00001000 && t.expevt == 0x00000180 && t.sr == 0x70000000 && t.pc == 0x00008100) = true := by decide

/-- Vector `LDC R1,R2_BANK (RB=1)` of 95_test_vectors.md (R300). -/
theorem test_ldcBank : leaves (step (({ start 0x1000 0x41AE with sr := 0x70000000 } : State) |>.setReg 1 0x00001234))
    (fun t => t.bank0[2] == 0x00001234 && t.pc == 0x1002) = true := by decide

/-- Vector `LDC R1,R2_BANK (RB=0)` of 95_test_vectors.md (R300). -/
theorem test_ldcBank_again : leaves (step (({ start 0x1000 0x41AE with sr := 0x40000000 } : State) |>.setReg 1 0x00001234))
    (fun t => t.bank1[2] == 0x00001234 && t.pc == 0x1002) = true := by decide

/-- Vector `STC R7_BANK,R8` of 95_test_vectors.md (R302). -/
theorem test_stcBank : leaves (step (({ start 0x1000 0x08F2 with sr := 0x70000000 } : State) |>.setBackReg 7 0x0000CAFE))
    (fun t => t.reg 8 == 0x0000CAFE && t.pc == 0x1002) = true := by decide

/-- Vector `STC.L SR,@-R15` of 95_test_vectors.md (R315). -/
theorem test_stcLSr : leaves (step (({ start 0x1000 0x4F03 with sr := 0x500000F1 } : State) |>.setReg 15 0x00003000))
    (fun t => t.mem.read 0x2FFC == some 0x50 && t.mem.read 0x2FFD == some 0x00 && t.mem.read 0x2FFE == some 0x00 && t.mem.read 0x2FFF == some 0xF1 && t.reg 15 == 0x00002FFC && t.pc == 0x1002) = true := by decide

/-- Vector `LDC.L @R15+,SR` of 95_test_vectors.md (R292). -/
theorem test_ldcLSr : leaves (step (put ((start 0x1000 0x4F07) |>.setReg 15 0x00003000) 0x3000 [0xFF, 0xFF, 0xFF, 0xFF]))
    (fun t => t.reg 15 == 0x00003004 && t.sr == 0x700003F3 && t.pc == 0x1002) = true := by decide

/-- Vector `LDC.L @R1+,SR (m<8, RB changes 0->1)` of 95_test_vectors.md (R292). -/
theorem test_ldcLSr_again : leaves (step (put (({ start 0x1000 0x4107 with sr := 0x40000000 } : State) |>.setReg 1 0x00003000) 0x3000 [0x60, 0x00, 0x00, 0x00]))
    (fun t => t.bank0[1] == 0x00003004 && t.sr == 0x60000000 && t.pc == 0x1002) = true := by decide

/-- Vector `LDS.L @R15+,PR` of 95_test_vectors.md (R306). -/
theorem test_ldsLPr : leaves (step (put ((start 0x1000 0x4F26) |>.setReg 15 0x00002FFC) 0x2FFC [0x00, 0x00, 0x10, 0x04]))
    (fun t => t.reg 15 == 0x00003000 && t.pr == 0x00001004 && t.pc == 0x1002) = true := by decide

/-- Vector `STS.L PR,@-R15` of 95_test_vectors.md (R326). -/
theorem test_stsLPr : leaves (step (({ start 0x1000 0x4F22 with pr := 0x00001004 } : State) |>.setReg 15 0x00003000))
    (fun t => t.mem.read 0x2FFC == some 0x00 && t.mem.read 0x2FFD == some 0x00 && t.mem.read 0x2FFE == some 0x10 && t.mem.read 0x2FFF == some 0x04 && t.reg 15 == 0x00002FFC && t.pc == 0x1002) = true := by decide

/-- Vector `STS.L MACH,@-R15 (misaligned)` of 95_test_vectors.md (R324). -/
theorem test_stsLMach : leaves (step (({ start 0x1000 0x4F02 with vbr := 0x00008000, mach := 0x00000001 } : State) |>.setReg 15 0x00003002))
    (fun t => t.ssr == 0x40000000 && t.spc == 0x00001000 && t.expevt == 0x00000100 && t.sr == 0x70000000 && t.pc == 0x00008100) = true := by decide

/-- Vector `LDC R1,SSR` of 95_test_vectors.md (R290). -/
theorem test_ldcSsr : leaves (step ((start 0x1000 0x413E) |>.setReg 1 0xFFFFFFFF))
    (fun t => t.ssr == 0xFFFFFFFF && t.pc == 0x1002) = true := by decide

/-- Vector `LDC R1,SPC` of 95_test_vectors.md (R291). -/
theorem test_ldcSpc : leaves (step ((start 0x1000 0x414E) |>.setReg 1 0x00001235))
    (fun t => t.spc == 0x00001235 && t.pc == 0x1002) = true := by decide

/-- Vector `STC GBR,R1 in user mode` of 95_test_vectors.md (R309). -/
theorem test_stcGbr : leaves (step (({ start 0x1000 0x0112 with sr := 0x00000000, gbr := 0x00004000 } : State)))
    (fun t => t.reg 1 == 0x00004000 && t.pc == 0x1002) = true := by decide

/-- Vector `STC VBR,R1` of 95_test_vectors.md (R310). -/
theorem test_stcVbr : leaves (step (({ start 0x1000 0x0122 with vbr := 0x00008000 } : State)))
    (fun t => t.reg 1 == 0x00008000 && t.pc == 0x1002) = true := by decide

/-- Vector `STC.L VBR,@-R15` of 95_test_vectors.md (R317). -/
theorem test_stcLVbr : leaves (step (({ start 0x1000 0x4F23 with vbr := 0x00008000 } : State) |>.setReg 15 0x00003000))
    (fun t => t.mem.read 0x2FFC == some 0x00 && t.mem.read 0x2FFD == some 0x00 && t.mem.read 0x2FFE == some 0x80 && t.mem.read 0x2FFF == some 0x00 && t.reg 15 == 0x00002FFC && t.pc == 0x1002) = true := by decide

/-- Vector `LDC.L @R15+,GBR` of 95_test_vectors.md (R293). -/
theorem test_ldcLGbr : leaves (step (put ((start 0x1000 0x4F17) |>.setReg 15 0x00003000) 0x3000 [0x00, 0x00, 0x40, 0x00]))
    (fun t => t.reg 15 == 0x00003004 && t.gbr == 0x00004000 && t.pc == 0x1002) = true := by decide

/-- Vector `STC.L R1_BANK,@-R15 (RB=0)` of 95_test_vectors.md (R303). -/
theorem test_stcLBank : leaves (step ((start 0x1000 0x4F93) |>.setReg 15 0x00003000 |>.setBackReg 1 0x11112222))
    (fun t => t.mem.read 0x2FFC == some 0x11 && t.mem.read 0x2FFD == some 0x11 && t.mem.read 0x2FFE == some 0x22 && t.mem.read 0x2FFF == some 0x22 && t.reg 15 == 0x00002FFC && t.pc == 0x1002) = true := by decide

/-- Vector `LDC.L @R15+,R0_BANK (RB=0)` of 95_test_vectors.md (R301). -/
theorem test_ldcLBank : leaves (step (put ((start 0x1000 0x4F87) |>.setReg 15 0x00003000) 0x3000 [0x33, 0x33, 0x44, 0x44]))
    (fun t => t.bank1[0] == 0x33334444 && t.reg 15 == 0x00003004 && t.pc == 0x1002) = true := by decide

/-- Vector `LDS R1,MACH` of 95_test_vectors.md (R297). -/
theorem test_ldsMach : leaves (step ((start 0x1000 0x410A) |>.setReg 1 0xFFFFFFFF))
    (fun t => t.mach == 0xFFFFFFFF && t.pc == 0x1002) = true := by decide

/-- Vector `LDS R1,MACL` of 95_test_vectors.md (R298). -/
theorem test_ldsMacl : leaves (step ((start 0x1000 0x411A) |>.setReg 1 0x80000000))
    (fun t => t.macl == 0x80000000 && t.pc == 0x1002) = true := by decide

/-- Vector `STS MACH,R1` of 95_test_vectors.md (R320). -/
theorem test_stsMach : leaves (step (({ start 0x1000 0x010A with mach := 0xFFFF8000 } : State)))
    (fun t => t.reg 1 == 0xFFFF8000 && t.pc == 0x1002) = true := by decide

/-- Vector `STS MACL,R1` of 95_test_vectors.md (R321). -/
theorem test_stsMacl : leaves (step (({ start 0x1000 0x011A with macl := 0x00000032 } : State)))
    (fun t => t.reg 1 == 0x00000032 && t.pc == 0x1002) = true := by decide

/-- Vector `STS PR,R1` of 95_test_vectors.md (R323). -/
theorem test_stsPr : leaves (step (({ start 0x1000 0x012A with pr := 0x00001004 } : State)))
    (fun t => t.reg 1 == 0x00001004 && t.pc == 0x1002) = true := by decide

/-- Vector `LDS.L @R1+,MACL` of 95_test_vectors.md (R305). -/
theorem test_ldsLMacl : leaves (step (put ((start 0x1000 0x4116) |>.setReg 1 0x00003000) 0x3000 [0x01, 0x02, 0x03, 0x04]))
    (fun t => t.reg 1 == 0x00003004 && t.macl == 0x01020304 && t.pc == 0x1002) = true := by decide

/-- Vector `STS.L MACL,@-R1` of 95_test_vectors.md (R325). -/
theorem test_stsLMacl : leaves (step (({ start 0x1000 0x4112 with macl := 0x01020304 } : State) |>.setReg 1 0x00003000))
    (fun t => t.mem.read 0x2FFC == some 0x01 && t.mem.read 0x2FFD == some 0x02 && t.mem.read 0x2FFE == some 0x03 && t.mem.read 0x2FFF == some 0x04 && t.reg 1 == 0x00002FFC && t.pc == 0x1002) = true := by decide

/-- Vector `CLRMAC` of 95_test_vectors.md (R281). -/
theorem test_clrmac : leaves (step (({ start 0x1000 0x0028 with mach := 0x00000012, macl := 0x00000034 } : State)))
    (fun t => t.mach == 0x00000000 && t.macl == 0x00000000 && t.pc == 0x1002) = true := by decide

/-- Vector `SETS` of 95_test_vectors.md (R284). -/
theorem test_sets : leaves (step (start 0x1000 0x0058))
    (fun t => t.flagS && t.pc == 0x1002) = true := by decide

/-- Vector `CLRS` of 95_test_vectors.md (R282). -/
theorem test_clrs : leaves (step ((start 0x1000 0x0048) |>.setS true))
    (fun t => !t.flagS && t.pc == 0x1002) = true := by decide

/-- Vector `SETT` of 95_test_vectors.md (R285). -/
theorem test_sett : leaves (step ((start 0x1000 0x0018) |>.setT false))
    (fun t => t.flagT && t.pc == 0x1002) = true := by decide

/-- Vector `CLRT` of 95_test_vectors.md (R283). -/
theorem test_clrt : leaves (step ((start 0x1000 0x0008) |>.setT true))
    (fun t => !t.flagT && t.pc == 0x1002) = true := by decide

/-- Vector `TRAPA #FF` of 95_test_vectors.md (R327). -/
theorem test_trapa : leaves (step (({ start 0x1000 0xC3FF with sr := 0x000000F1, vbr := 0x00008000 } : State)))
    (fun t => t.ssr == 0x000000F1 && t.spc == 0x00001002 && t.tra == 0x000003FC && t.expevt == 0x00000160 && t.sr == 0x700000F1 && t.pc == 0x00008100) = true := by decide

/-- Vector `undefined word 0xFFFD` of 95_test_vectors.md (R96). -/
theorem test_undefined : leaves (step (({ start 0x1000 0xFFFD with vbr := 0x00008000 } : State)))
    (fun t => t.ssr == 0x40000000 && t.spc == 0x00001000 && t.expevt == 0x00000180 && t.sr == 0x70000000 && t.pc == 0x00008100) = true := by decide

/-- Vector `undefined word 0x0001` of 95_test_vectors.md (R96). -/
theorem test_undefined_again : leaves (step (({ start 0x1000 0x0001 with vbr := 0x00008000 } : State)))
    (fun t => t.ssr == 0x40000000 && t.spc == 0x00001000 && t.expevt == 0x00000180 && t.sr == 0x70000000 && t.pc == 0x00008100) = true := by decide

/-- Vector `MOV.L @R1,R2 in user mode, R1=0x80000000` of 95_test_vectors.md (R130). -/
theorem test_movLLoad_again : leaves (step (({ start 0x1000 0x6212 with sr := 0x00000000, vbr := 0x00008000 } : State) |>.setReg 1 0x80000000))
    (fun t => t.spc == 0x00001000 && t.expevt == 0x000000E0 && t.sr == 0x70000000 && t.pc == 0x00008100) = true := by decide

/-- Vector `PREF @R1 (R1 odd)` of 95_test_vectors.md (R311). -/
theorem test_pref : leaves (step ((start 0x1000 0x0183) |>.setReg 1 0x00002001))
    (fun t => t.pc == 0x00001002) = true := by decide

/-- Vector `NOP` of 95_test_vectors.md (R286). -/
theorem test_nop : leaves (step (start 0x1000 0x0009))
    (fun t => t.pc == 0x00001002) = true := by decide

/-- 95_test_vectors.md section 2.5, the branch alone (R264). -/
theorem test_bfS : leaves (step (start 0x1000 0x8F80))
    (fun t => t.pc == 0x1002 && t.slot == some 0xF04) = true := by decide

/-- D17: a slot instruction follows also when the branch is not taken (R264). -/
theorem test_bfS_not_taken : leaves (step (start 0x1000 0x8F80 |>.setT true))
    (fun t => t.pc == 0x1002 && t.slot == some 0x1004) = true := by decide

/-- 95_test_vectors.md section 2.5, the branch alone (R266). -/
theorem test_btS : leaves (step (start 0x1000 0x8D10 |>.setT true))
    (fun t => t.pc == 0x1002 && t.slot == some 0x1024) = true := by decide

/-- 95_test_vectors.md section 2.5, the branch alone (R266). -/
theorem test_btS_not_taken : leaves (step (start 0x1000 0x8D10))
    (fun t => t.pc == 0x1002 && t.slot == some 0x1004) = true := by decide

/-- 95_test_vectors.md section 2.5, the branch alone (R267). -/
theorem test_bra : leaves (step (start 0x1000 0xA800))
    (fun t => t.pc == 0x1002 && t.slot == some 0x4) = true := by decide

/-- 95_test_vectors.md section 2.5, `BRA in slot of BRA` (R262). -/
theorem test_bra_in_slot : leaves (step { start 0x1002 0xA004 with slot := some 0x1008, vbr := 0x8000 })
    (fun t => t.spc == 0x1000 && t.ssr == 0x40000000 && t.expevt == 0x1A0 && t.sr == 0x70000000 && t.pc == 0x8100 && t.slot == none) = true := by decide

/-- 95_test_vectors.md section 2.5, the branch alone (R268). -/
theorem test_braf : leaves (step (start 0x1000 0x0123 |>.setReg 1 0xFFFFFFFC))
    (fun t => t.pc == 0x1002 && t.slot == some 0x1000) = true := by decide

/-- 95_test_vectors.md section 2.5, the branch alone (R269). -/
theorem test_bsr : leaves (step (start 0x1000 0xBFFE))
    (fun t => t.pc == 0x1002 && t.slot == some 0x1000 && t.pr == 0x1004) = true := by decide

/-- 95_test_vectors.md section 2.5, the branch alone (R270). -/
theorem test_bsrf : leaves (step (start 0x1000 0x0103 |>.setReg 1 0x100))
    (fun t => t.pc == 0x1002 && t.slot == some 0x1104 && t.pr == 0x1004) = true := by decide

/-- 95_test_vectors.md section 2.5, the branch alone (R271). -/
theorem test_jmp : leaves (step (start 0x1000 0x412B |>.setReg 1 0x2000))
    (fun t => t.pc == 0x1002 && t.slot == some 0x2000) = true := by decide

/-- 95_test_vectors.md section 2.5, the slot of `JMP @R1` (R260): `ADD #4,R1` goes to the target. -/
theorem test_jmp_slot : leaves (step ({ start 0x1002 0x7104 with slot := some 0x2000 } |>.setReg 1 0x2000))
    (fun t => t.reg 1 == 0x2004 && t.pc == 0x2000 && t.slot == none) = true := by decide

/-- 95_test_vectors.md section 2.5, the branch alone (R272). -/
theorem test_jsr : leaves (step (start 0x1000 0x410B |>.setReg 1 0x2000))
    (fun t => t.pc == 0x1002 && t.slot == some 0x2000 && t.pr == 0x1004) = true := by decide

/-- 95_test_vectors.md section 2.5, the branch alone (R273). -/
theorem test_rts : leaves (step { start 0x1000 0x000B with pr := 0x2000 })
    (fun t => t.pc == 0x1002 && t.slot == some 0x2000) = true := by decide

/-- 95_test_vectors.md section 2.5, a fault in a slot saves the branch (R373). -/
theorem test_slot_load_faults : leaves (step ({ start 0x1002 0x6212 with slot := some 0x1024, vbr := 0x8000 } |>.setReg 1 0x2001))
    (fun t => t.spc == 0x1000 && t.expevt == 0x0E0 && t.pc == 0x8100) = true := by decide

/-- R294. -/
theorem test_ldcLVbr : leaves (step (put (start 0x1000 0x4127 |>.setReg 1 0x3000) 0x3000 [0, 0, 0x80, 0]))
    (fun t => t.vbr == 0x8000 && t.reg 1 == 0x3004 && t.pc == 0x1002) = true := by decide

/-- R295. -/
theorem test_ldcLSsr : leaves (step (put (start 0x1000 0x4137 |>.setReg 1 0x3000) 0x3000 [0xFF, 0xFF, 0xFF, 0xFF]))
    (fun t => t.ssr == 0xFFFFFFFF && t.reg 1 == 0x3004) = true := by decide

/-- R296. -/
theorem test_ldcLSpc : leaves (step (put (start 0x1000 0x4147 |>.setReg 1 0x3000) 0x3000 [0, 0, 0x20, 1]))
    (fun t => t.spc == 0x2001 && t.reg 1 == 0x3004) = true := by decide

/-- R313. -/
theorem test_stcSsr : leaves (step { start 0x1000 0x0132 with ssr := 0x700000F3 })
    (fun t => t.reg 1 == 0x700000F3) = true := by decide

/-- R314. -/
theorem test_stcSpc : leaves (step { start 0x1000 0x0142 with spc := 0x2001 })
    (fun t => t.reg 1 == 0x2001) = true := by decide

/-- R316; user mode may do it. -/
theorem test_stcLGbr : leaves (step ({ start 0x1000 0x4113 with gbr := 0x4000, sr := 0 } |>.setReg 1 0x3000))
    (fun t => t.reg 1 == 0x2FFC && t.mem.read 0x2FFE == some 0x40) = true := by decide

/-- R318. -/
theorem test_stcLSsr : leaves (step ({ start 0x1000 0x4133 with ssr := 0x700000F3 } |>.setReg 1 0x3000))
    (fun t => t.reg 1 == 0x2FFC && t.mem.read 0x2FFC == some 0x70 && t.mem.read 0x2FFF == some 0xF3) = true := by decide

/-- R319. -/
theorem test_stcLSpc : leaves (step ({ start 0x1000 0x4143 with spc := 0x2001 } |>.setReg 1 0x3000))
    (fun t => t.reg 1 == 0x2FFC && t.mem.read 0x2FFE == some 0x20) = true := by decide

/-- R299. -/
theorem test_ldsPr : leaves (step (start 0x1000 0x412A |>.setReg 1 0x3000))
    (fun t => t.pr == 0x3000) = true := by decide

/-- R304. -/
theorem test_ldsLMach : leaves (step (put (start 0x1000 0x4106 |>.setReg 1 0x3000) 0x3000 [1, 2, 3, 4]))
    (fun t => t.mach == 0x01020304 && t.reg 1 == 0x3004) = true := by decide

/-- 95_test_vectors.md section 2.6 (R322): SR is restored at once. -/
theorem test_rte : leaves (step { start 0x1000 0x002B with sr := 0x70000000, ssr := 0xFFFFFFFF, spc := 0x2000 })
    (fun t => t.sr == 0x700003F3 && t.pc == 0x1002 && t.slot == some 0x2000) = true := by decide

/-- 95_test_vectors.md section 2.6 (R280). -/
theorem test_rte_in_user_mode : leaves (step { start 0x1000 0x002B with sr := 0, spc := 0x2000, vbr := 0x8000 })
    (fun t => t.spc == 0x1000 && t.expevt == 0x180 && t.sr == 0x70000000 && t.pc == 0x8100) = true := by decide

/-- R312. -/
theorem test_sleep : leaves (step (start 0x1000 0x001B))
    (fun t => t.asleep && t.pc == 0x1002) = true := by decide

/-- R66, R307: refused in privileged mode. -/
theorem test_ldtlb : refusesWith (step (start 0x1000 0x0038)) .tlbWrite = true := by decide

/-- R307: ReservedInstruction in user mode. -/
theorem test_ldtlb_user : leaves (step { start 0x1000 0x0038 with sr := 0, vbr := 0x8000 })
    (fun t => t.expevt == 0x180 && t.spc == 0x1000 && t.pc == 0x8100) = true := by decide

/-- `DIV1 R1,R1`, `MAC.L @R5+,@R5+` and `MAC.W @R5+,@R5+` (R186, R195, R196, D22). -/
theorem test_same_register_refused : refusesWith (step (start 0x1000 0x3114)) (.sameRegister 1) = true ∧
    refusesWith (step (start 0x1000 0x055F)) (.sameRegister 5) = true ∧
    refusesWith (step (start 0x1000 0x455F)) (.sameRegister 5) = true := by decide

/-- 95_test_vectors.md section 3.1 (R61). -/
theorem test_little_endian_load : leaves (step (put ({ put (start 0x1000 0x0009) 0x1000 [0x12, 0x62] with endian := .little } |>.setReg 1 0x2000) 0x2000 [0x78, 0x56, 0x34, 0x12]))
    (fun t => t.reg 2 == 0x12345678) = true := by decide

/-- 95_test_vectors.md section 3.4, level 5 over I = 4 (R380). -/
theorem test_interrupt_accepted : leaves (step { start 0x1000 0x0009 with sr := 0x40000040, level := 5, vbr := 0x8000 })
    (fun t => t.spc == 0x1000 && t.ssr == 0x40000040 && t.sr == 0x70000040 && t.intevt == 0x340 && t.pc == 0x8600) = true := by decide

/-- 95_test_vectors.md section 3.4, level 4 is not over I = 4 (R380). -/
theorem test_interrupt_not_accepted : leaves (step { start 0x1000 0x0009 with sr := 0x40000040, level := 4 })
    (fun t => t.pc == 0x1002 && t.level == 4) = true := by decide

/-- 95_test_vectors.md section 3.4, NMI is not masked by I (R381). -/
theorem test_nmi_accepted : leaves (step { start 0x1000 0x0009 with sr := 0x400000F0, nmi := true, vbr := 0x8000 })
    (fun t => t.intevt == 0x1C0 && t.sr == 0x700000F0 && t.pc == 0x8600) = true := by decide

/-- 95_test_vectors.md section 3.4, not between a delayed branch and its slot (R260). -/
theorem test_interrupt_waits_for_slot : leaves (step { start 0x1002 0x0009 with level := 15, slot := some 0x2000 })
    (fun t => t.pc == 0x2000 && t.slot == none && t.level == 15) = true := by decide

/-- 95_test_vectors.md section 3.4, level 2 (R312). -/
theorem test_interrupt_ends_sleep : leaves (step { start 0x1002 0x0009 with asleep := true, level := 2, vbr := 0x8000 })
    (fun t => !t.asleep && t.spc == 0x1002 && t.intevt == 0x3A0 && t.pc == 0x8600) = true := by decide

/-- 95_test_vectors.md section 3.4, `TRAPA #1` with BL = 1 resets (R372, D15). -/
theorem test_trap_while_blocked : leaves (step { start 0x1000 0xC301 with sr := 0x50000000, vbr := 0x8000, spc := 0x44 })
    (fun t => t.pc == 0xA0000000 && t.vbr == 0 && t.expevt == 0x160 && t.spc == 0x44) = true := by decide

/-- R410. -/
theorem test_manual_reset : leaves (step { start 0x1000 0x0009 with resetPin := some .manual, spc := 0x44 })
    (fun t => t.pc == 0xA0000000 && t.vbr == 0 && t.expevt == 0x020 && t.spc == 0x44 && t.resetPin == none) = true := by decide

/-- R413: the first step after reset runs a word placed at the reset vector. -/
theorem test_placed_word_runs_after_reset : leaves (step (State.reset.withFetchWord 16 0xE17F))
    (fun t => t.reg 1 == 0x7F && t.bank1[1] == 0x7F && t.pc == 0xA0000002) = true := by decide

theorem test_reset_state : State.reset.pc = 0xA0000000 ∧ State.reset.sr = 0x700000F0 ∧ State.reset.vbr = 0 ∧
    State.reset.expevt = 0 := by decide

/-- R71, log 12: a word that a store of this run wrote is not fetched. -/
theorem test_stored_text_refused :
    refusesWith (step ((start 0x1000 0x0009).storeBytes 0x1001 [0x09])) (.storedText 0x1001) = true := by decide

/-- R69, R71, log 12: a word of a location that other agents write is not fetched. -/
theorem test_shared_text_refused :
    refusesWith (step ((start 0x1000 0x0009).declareShared 0x1001 1)) (.storedText 0x1001) = true := by decide

/-- R427, D10: a PC-relative operand in a slot is refused. -/
theorem test_mova_in_slot_refused :
    refusesWith (step { start 0x1002 0xC702 with slot := some 0x2000 }) (.slotPcRelative 0x1002) = true := by decide

/-- R69: `MOV.L @R1,R2` where the last byte is shared reads the other three bytes from memory and that one from the oracle,
whatever memory holds there. -/
theorem test_shared_load :
    ((put (start 0x1000 0x6212) 0x2000 [1, 2, 3, 4]).declareShared 0x2003 1).loadLong .read 0x2000 =
      .ok (0x010203#24 ++ Config.oracle 0 0x2003) := rfl

/-- R69: the load completes, and the next one gets an answer of its own. -/
theorem test_shared_load_completes :
    leaves (step (((put (start 0x1000 0x6212) 0x2000 [1, 2, 3, 4]).declareShared 0x2003 1).setReg 1 0x2000))
      (fun t => t.pc == 0x1002 && t.oracleCount == 1 && t.shared == [0x2003]) = true := by decide

/-- Log 3: memory that nothing has written holds no value. -/
theorem test_unwritten_memory_faults : faultsWith (step State.reset) (.unwrittenMemory 0) = true := by decide

/-- Log 13: P4 holds only the event registers. -/
theorem test_p4_refused : refusesWith (step (start 0x1000 0x6212 |>.setReg 1 0xFFFFFFDC)) (.p4Access 0xFFFFFFDC) = true := by
  decide

/-! ## For every statement with hypotheses, a state and operands that meet them

A theorem `witness_<Name>` is about `Obligations.<Name>`. `kernel` is privileged and `user` is not; both have BL = 0. -/

def kernel : State := { State.reset with sr := 0x40000000, pc := 0x1000 }

def user : State := { State.reset with sr := 0, pc := 0x1000 }

theorem mayAccess_of {s : State} {n : Nat} {ea : Word}
    (h : (!s.addressFails n ea && decide (ea.toNat < 0xE0000000)) = true) : s.MayAccess n ea := by
  rw [Bool.and_eq_true, Bool.not_eq_true', decide_eq_true_eq] at h
  exact ⟨fun hb => by rw [(s.addressFails_iff n ea).2 hb] at h; exact absurd h.1 (by decide), h.2⟩

theorem badAddress_of {s : State} {n : Nat} {ea : Word} (h : s.addressFails n ea = true) : s.BadAddress n ea :=
  (s.addressFails_iff n ea).1 h

theorem notBad_of {s : State} {n : Nat} {ea : Word} (h : s.addressFails n ea = false) : ¬ s.BadAddress n ea :=
  fun hb => by rw [(s.addressFails_iff n ea).2 hb] at h; cases h

theorem holds_of {s : State} {p : Nat} (bytes : List Byte)
    (h : ∀ k (h : k < bytes.length), s.mem.read (p + k) = some bytes[k]) : s.Holds bytes.length p (bytesValue s.endian bytes) :=
  ⟨bytes, rfl, rfl, h⟩

theorem gives_of {s : State} {p : Nat} (bytes : List Byte)
    (h : ∀ k (h : k < bytes.length), s.readByte (p + k) = some bytes[k]) : s.Gives bytes.length p (bytesValue s.endian bytes) :=
  ⟨bytes, rfl, rfl, h⟩

/-- A shared byte reads as the oracle says, whatever memory holds. -/
theorem gives_shared {s : State} {p : Nat} (h : p ∈ s.shared) : s.Gives 1 p (Config.oracle s.oracleCount p).toNat :=
  ⟨[Config.oracle s.oracleCount p], rfl, by cases s.endian <;> simp [bytesValue], by
    intro k hk
    obtain rfl : k = 0 := by simpa using hk
    simp [State.readByte, h]⟩

/-- `start` fetches its word. -/
theorem witness_StepRunsDecoded : (start 0x1000 0xE022).Fetches 0xE022 ∧ decode 0xE022 = .ok (.movImm 34 0) :=
  ⟨⟨⟨rfl, rfl, .inr (.inr ⟨rfl, by decide⟩)⟩, mayAccess_of (by decide), holds_of [0xE0, 0x22] (by decide), by decide⟩,
    by decide⟩

theorem witness_DecodeThenEncode : decode 0x3104 = .ok (.div1 0 1) := by decide

theorem witness_OneRowPerWord : ∃ r ∈ opcodeRows, ∃ q ∈ opcodeRows,
    0x3104#16 &&& r.mask = r.bits ∧ 0x3104#16 &&& q.mask = q.bits := by
  have h : ∃ r ∈ opcodeRows, 0x3104#16 &&& r.mask = r.bits := by decide
  obtain ⟨r, hr, h⟩ := h
  exact ⟨r, hr, r, hr, h, h⟩

theorem no_row_fffd : (opcodeRows.all fun r => !(0xFFFD#16 &&& r.mask == r.bits)) = true := by decide

/-- Outside a slot, and in a slot where a pending interrupt waits. -/
theorem witness_UndefinedWordRaises : (∀ r ∈ opcodeRows, 0xFFFD#16 &&& r.mask ≠ r.bits) ∧
    ((start 0x1000 0xFFFD).Fetches 0xFFFD ∧ (start 0x1000 0xFFFD).slot = none) ∧
    ({ start 0x1002 0xFFFD with slot := some 0x2000, level := 15 } : State).Fetches 0xFFFD :=
  ⟨fun r hr => by simpa using List.all_eq_true.1 no_row_fffd r hr,
    ⟨⟨⟨rfl, rfl, .inr (.inr ⟨rfl, by decide⟩)⟩, mayAccess_of (by decide), holds_of [0xFF, 0xFD] (by decide), by decide⟩, rfl⟩,
    ⟨⟨rfl, rfl, .inl (by decide)⟩, mayAccess_of (by decide), holds_of [0xFF, 0xFD] (by decide), by decide⟩⟩

/-- An odd pc, user mode at 0x80000000, the first address of P4, a word whose second byte was stored, and a word of which
nothing wrote the second byte; and a word whose second byte is shared. -/
theorem witness_FetchStops :
    (({ kernel with pc := 0x1001 } : State).Undisturbed ∧ ({ kernel with pc := 0x1001 } : State).BadAddress 2 0x1001) ∧
    (({ user with pc := 0x80000000 } : State).Undisturbed ∧
      ({ user with pc := 0x80000000 } : State).BadAddress 2 0x80000000) ∧
    (({ kernel with pc := 0xE0000000 } : State).Undisturbed ∧
      ¬ ({ kernel with pc := 0xE0000000 } : State).BadAddress 2 0xE0000000) ∧
    (((start 0x1000 0x0009).storeBytes 0x1001 [0x09]).Undisturbed ∧
      ((start 0x1000 0x0009).storeBytes 0x1001 [0x09]).MayAccess 2 0x1000 ∧
      0x1001 ∈ ((start 0x1000 0x0009).storeBytes 0x1001 [0x09]).storedTo) ∧
    ((put kernel 0x1000 [0x00]).Undisturbed ∧ (put kernel 0x1000 [0x00]).MayAccess 2 0x1000 ∧
      (∀ a ∈ span (place 0x1000) 2, a ∉ (put kernel 0x1000 [0x00]).storedTo ∧ a ∉ (put kernel 0x1000 [0x00]).shared) ∧
      (∃ a ∈ span (place 0x1000) 2, (put kernel 0x1000 [0x00]).mem.read a = none)) ∧
    (((start 0x1000 0x0009).declareShared 0x1001 1).Undisturbed ∧
      ((start 0x1000 0x0009).declareShared 0x1001 1).MayAccess 2 0x1000 ∧
      0x1001 ∈ ((start 0x1000 0x0009).declareShared 0x1001 1).shared) :=
  ⟨⟨⟨rfl, rfl, .inr (.inr ⟨rfl, by decide⟩)⟩, badAddress_of (by decide)⟩,
    ⟨⟨rfl, rfl, .inr (.inr ⟨rfl, by decide⟩)⟩, badAddress_of (by decide)⟩,
    ⟨⟨rfl, rfl, .inr (.inr ⟨rfl, by decide⟩)⟩, notBad_of (by decide)⟩,
    ⟨⟨rfl, rfl, .inr (.inr ⟨rfl, by decide⟩)⟩, mayAccess_of (by decide), by decide⟩,
    ⟨⟨rfl, rfl, .inr (.inr ⟨rfl, by decide⟩)⟩, mayAccess_of (by decide), by decide, by decide⟩,
    ⟨⟨rfl, rfl, .inr (.inr ⟨rfl, by decide⟩)⟩, mayAccess_of (by decide), by decide⟩⟩

theorem witness_StepStopsOnlySo : step State.reset = .fault (.unwrittenMemory 0) ∧
    step (start 0x1000 0x6212 |>.setReg 1 0xFFFFFFDC) = .refused (.p4Access 0xFFFFFFDC) ∧
    step ((start 0x1000 0x0009).storeBytes 0x1001 [0x09]) = .refused (.storedText 0x1001) ∧
    step ((start 0x1000 0x0009).declareShared 0x1001 1) = .refused (.storedText 0x1001) ∧
    step { start 0x1002 0xC702 with slot := some 0x2000 } = .refused (.slotPcRelative 0x1002) ∧
    step (start 0x1000 0x0038) = .refused .tlbWrite ∧
    step (start 0x1000 0x3114) = .refused (.sameRegister 1) ∧
    step (start 0x1000 0x055F) = .refused (.sameRegister 5) ∧
    step (start 0x1000 0x455F) = .refused (.sameRegister 5) := ⟨rfl, rfl, rfl, rfl, rfl, rfl, rfl, rfl, rfl⟩

/-- Asleep with no request, with a level equal to the mask, with BL = 1, and in a slot. -/
theorem witness_SleepHolds :
    (({ kernel with asleep := true } : State).asleep = true ∧ ({ kernel with asleep := true } : State).resetPin = none ∧
      kernel.nmi = false ∧ kernel.level.val ≤ kernel.maskLevel) ∧
    (15 ≤ ({ kernel with sr := 0x400000F0, level := 15, asleep := true } : State).maskLevel) ∧
    (({ kernel with sr := 0x50000000, level := 15, nmi := true, asleep := true } : State).blocked = true) ∧
    (({ kernel with slot := some 0, asleep := true } : State).slot ≠ none) := by decide

theorem witness_ResetRequest : ({ kernel with resetPin := some .powerOn } : State).resetPin = some .powerOn ∧
    ({ kernel with resetPin := some .manual } : State).resetPin = some .manual := by decide

theorem witness_BlockedExceptionResets : State.reset.blocked = true := by decide

theorem witness_ExceptionEntry : kernel.blocked = false ∧ user.blocked = false := by decide

theorem witness_ExceptionCodesAndSavedPc : (∀ imm, Exc.illegalSlot ≠ .trap imm) ∧ kernel.slot = none ∧
    ({ kernel with slot := some 0x2000 } : State).slot ≠ none :=
  ⟨fun _ => by simp, rfl, by decide⟩

/-- NMI under I = 15, level 1 over I = 0, and level 15 over I = 14. -/
theorem witness_InterruptAccepted :
    (kernel.resetPin = none ∧ kernel.slot = none ∧ kernel.blocked = false) ∧
    (({ kernel with sr := 0x400000F0, nmi := true } : State).nmi = true ∧
      ({ kernel with sr := 0x400000F0, nmi := true } : State).blocked = false) ∧
    (({ kernel with level := 1 } : State).maskLevel < ({ kernel with level := 1 } : State).level.val ∧ kernel.nmi = false) ∧
    ({ kernel with sr := 0x400000E0, level := 15 } : State).maskLevel < 15 := by decide

theorem witness_BankSelection : (7 : Reg).val < 8 ∧ 8 ≤ (8 : Reg).val ∧ 8 ≤ (15 : Reg).val ∧
    ({ kernel with sr := 0x60000000 } : State).privileged = true ∧ ({ kernel with sr := 0x60000000 } : State).rb = true ∧
    ({ kernel with sr := 0x20000000 } : State).privileged = false ∧ kernel.rb = false := by decide

/-- The last longword below P4 in privileged mode and the last one of U0 in user mode; a byte that is shared and one that is
not. -/
theorem witness_ByteOrder :
    kernel.MayAccess 2 0xDFFFFFFE ∧ kernel.MayAccess 4 0xDFFFFFFC ∧ user.MayAccess 4 0x7FFFFFFC ∧ kernel.MayAccess 4 0 ∧
    ((put kernel 0x1FFFFFFC [1, 2, 3, 4]).readByte (place 0xDFFFFFFC) = some 1 ∧
      (put kernel 0x1FFFFFFC [1, 2, 3, 4]).readByte (place 0xDFFFFFFC + 1) = some 2 ∧
      (put kernel 0x1FFFFFFC [1, 2, 3, 4]).readByte (place 0xDFFFFFFC + 2) = some 3 ∧
      (put kernel 0x1FFFFFFC [1, 2, 3, 4]).readByte (place 0xDFFFFFFC + 3) = some 4) ∧
    (∀ x ∈ span (place 0xDFFFFFFC) 4, x ∉ kernel.shared) ∧
    ((kernel.declareShared 0x1FFFFFFF 1).MayAccess 1 0xDFFFFFFF ∧ place 0xDFFFFFFF ∈ (kernel.declareShared 0x1FFFFFFF 1).shared) ∧
    ((kernel.declareShared 0x1FFFFFFF 1).MayAccess 1 0xDFFFFFFE ∧ place 0xDFFFFFFE ∉ (kernel.declareShared 0x1FFFFFFF 1).shared) ∧
    ({ kernel with endian := .little } : State).endian ≠ .big :=
  ⟨mayAccess_of (by decide), mayAccess_of (by decide), mayAccess_of (by decide), mayAccess_of (by decide), by decide, by decide,
    ⟨mayAccess_of (by decide), by decide⟩, ⟨mayAccess_of (by decide), by decide⟩, by decide⟩

theorem witness_SegmentsAlias : kernel.privileged = true ∧ (0xDFFFFFFC#32).toNat < 0xE0000000 ∧
    (0xDFFFFFFC#32).toNat % 2 ^ 29 = (0x1FFFFFFC#32).toNat % 2 ^ 29 ∧ (0xDFFFFFFC#32).toNat % 4 = 0 := by decide

theorem witness_EventRegisters : kernel.ReachesEvent 0xFFFFFFD0 .tra ∧ kernel.ReachesEvent 0xFFFFFFD4 .expevt ∧
    kernel.ReachesEvent 0xFFFFFFD8 .intevt ∧ (kernel.setReg 1 0xFFFFFFD8).reg 1 = 0xFFFFFFD8 :=
  ⟨⟨by decide, by decide⟩, ⟨by decide, by decide⟩, ⟨by decide, by decide⟩, by decide⟩

/-- One address form of each kind, for each event register. -/
theorem witness_EventRegisterStores :
    (kernel.setReg 1 0xFFFFFFD4).ReachesEvent ((kernel.setReg 1 0xFFFFFFD4).reg 1 - 4) .tra ∧
    (kernel.setReg 1 0xFFFFFFC8).ReachesEvent ((kernel.setReg 1 0xFFFFFFC8).reg 1 + (3#4).setWidth 32 * 4) .expevt ∧
    ((kernel.setReg 1 0xFFFFFFE0).setReg 0 0xFFFFFFF8).ReachesEvent
      (((kernel.setReg 1 0xFFFFFFE0).setReg 0 0xFFFFFFF8).reg 1 + ((kernel.setReg 1 0xFFFFFFE0).setReg 0 0xFFFFFFF8).reg 0)
      .intevt ∧
    ({ kernel with gbr := 0xFFFFFBD4 } : State).ReachesEvent (0xFFFFFBD4 + (0xFF#8).setWidth 32 * 4) .tra :=
  ⟨⟨by decide, by decide⟩, ⟨by decide, by decide⟩, ⟨by decide, by decide⟩, ⟨by decide, by decide⟩⟩

/-- A misaligned read, a misaligned write, and a byte read by user mode at 0x80000000. -/
theorem witness_AddressErrors :
    ((kernel.setReg 1 0x2002).firstAccess (.movLLoad 1 2) = some (.read, 4, 0x2002) ∧
      WellFormed kernel.inSlot kernel.privileged (.movLLoad 1 2) = true ∧ (kernel.setReg 1 0x2002).BadAddress 4 0x2002) ∧
    ((kernel.setReg 1 0x2002).firstAccess (.stcLSr 1) = some (.write, 4, 0x1FFE) ∧
      WellFormed kernel.inSlot kernel.privileged (.stcLSr 1) = true ∧ (kernel.setReg 1 0x2002).BadAddress 4 0x1FFE) ∧
    ((user.setReg 1 0x80000000).firstAccess (.tasB 1) = some (.read, 1, 0x80000000) ∧
      WellFormed user.inSlot user.privileged (.tasB 1) = true ∧ (user.setReg 1 0x80000000).BadAddress 1 0x80000000) :=
  ⟨⟨rfl, by decide, badAddress_of (by decide)⟩, ⟨rfl, by decide, badAddress_of (by decide)⟩,
    ⟨rfl, by decide, badAddress_of (by decide)⟩⟩

/-- The first word of P4, the longword after INTEVT, and a longword of memory whose last byte nothing has written. -/
theorem witness_MemoryStops :
    ((kernel.setReg 1 0xE0000000).firstAccess (.movWStore 2 1) = some (.write, 2, 0xE0000000) ∧
      ¬ (kernel.setReg 1 0xE0000000).BadAddress 2 0xE0000000) ∧
    ((kernel.setReg 1 0xFFFFFFDC).firstAccess (.movLLoad 1 2) = some (.read, 4, 0xFFFFFFDC) ∧
      ¬ (kernel.setReg 1 0xFFFFFFDC).BadAddress 4 0xFFFFFFDC ∧
      ∀ r, ¬ (kernel.setReg 1 0xFFFFFFDC).ReachesEvent 0xFFFFFFDC r) ∧
    ((put (kernel.setReg 1 0x2000) 0x2000 [1, 2, 3]).firstAccess (.movLLoad 1 2) = some (.read, 4, 0x2000) ∧
      ¬ (put (kernel.setReg 1 0x2000) 0x2000 [1, 2, 3]).BadAddress 4 0x2000 ∧
      (put (kernel.setReg 1 0x2000) 0x2000 [1, 2, 3]).mem.read 0x2003 = none ∧
      0x2003 ∉ (put (kernel.setReg 1 0x2000) 0x2000 [1, 2, 3]).shared ∧ 0x2003 ∈ span (place 0x2000) 4) ∧
    WellFormed kernel.inSlot kernel.privileged (.movWStore 2 1) = true ∧
    WellFormed kernel.inSlot kernel.privileged (.movLLoad 1 2) = true :=
  ⟨⟨rfl, notBad_of (by decide)⟩,
    ⟨rfl, notBad_of (by decide), fun r h => by
      rcases h.2 with ⟨-, h⟩ | ⟨-, h⟩ | ⟨-, h⟩ <;> exact absurd h (by decide)⟩,
    ⟨rfl, notBad_of (by decide), by decide, by decide, by decide⟩, by decide, by decide⟩

theorem witness_StepKeepsForm : (start 0x1000 0x0009).Inv ∧
    step (start 0x1000 0x0009) = .next { start 0x1000 0x0009 with pc := 0x1002, oracleCount := 1 } :=
  ⟨⟨by decide, by decide, by decide, by decide, by decide, by decide, by decide, by decide⟩, rfl⟩

/-- A completed instruction and a trap. -/
theorem witness_SrWriters : kernel.blocked = false ∧ exec .nop kernel = .next { kernel with pc := 0x1002, oracleCount := 1 } ∧
    exec (.trapa 1) kernel = .next (kernel.takeExc (.trap 1)) ∧ 0 ∈ srFields ∧ 0 ∉ Instr.nop.srBits ∧ 28 ∈ srFields ∧
    28 ∉ (Instr.trapa 1).srBits := ⟨by decide, rfl, rfl, by decide, by decide, by decide, by decide⟩

theorem witness_UserModeConfined : user.privileged = false ∧ user.blocked = false ∧
    exec .nop user = .next { user with pc := 0x1002, oracleCount := 1 } ∧ exec .rte user = .next (user.takeExc .reservedInstruction) :=
  ⟨by decide, by decide, rfl, rfl⟩

/-- A delayed branch, its slot, and an exception in the slot. -/
theorem witness_DelaySlots : kernel.blocked = false ∧ kernel.slot = none ∧
    exec .rts kernel = .next { kernel with pc := 0x1002, slot := some 0 } ∧
    exec .nop { kernel with pc := 0x1002, slot := some 0 } =
      .next { kernel with pc := 0, slot := none, oracleCount := 1 } ∧
    exec .rts { kernel with pc := 0x1002, slot := some 0 } =
      .next (({ kernel with pc := 0x1002, slot := some 0 } : State).takeExc .illegalSlot) :=
  ⟨by decide, by decide, rfl, rfl, rfl⟩

theorem witness_IllegalInstructionsRaise : ({ kernel with slot := some 0 } : State).slot ≠ none ∧
    Instr.rts.slotIllegal = true ∧ user.privileged = false ∧ Instr.sleep.privileged = true ∧ user.slot = none ∧
    ({ user with slot := some 0 } : State).slot ≠ none := by decide

/-- Readable operands outside a slot, a bad address, and a slot. -/
theorem witness_PcRelativeOperands : kernel.slot = none ∧ ({ kernel with slot := some 0x2000 } : State).slot ≠ none ∧
    (put kernel 0x1202 [0x80, 0x01]).Readable 2 (kernel.pc + 4 + (0xFF#8).setWidth 32 * 2) 0x8001 ∧
    (put { kernel with pc := 0x1002 } 0x1004 [1, 2, 3, 4]).Readable 4
      (((0x1002 + 4) &&& 0xFFFFFFFC) + (0x00#8).setWidth 32 * 4) 0x01020304 ∧
    ({ user with pc := 0x7FFFFFFE } : State).slot = none ∧
    ({ user with pc := 0x7FFFFFFE } : State).BadAddress 2 (0x7FFFFFFE + 4 + (0x00#8).setWidth 32 * 2) :=
  ⟨rfl, by decide, .inl ⟨mayAccess_of (by decide), gives_of [0x80, 0x01] (by decide)⟩,
    .inl ⟨mayAccess_of (by decide), gives_of [1, 2, 3, 4] (by decide)⟩, rfl, badAddress_of (by decide)⟩

/-- What the statements about loads assume, for each size: the last address below P4 of the size is readable, an event
register is, a shared byte that nothing wrote is, and a misaligned address or one that user mode may not use is bad. -/
theorem witness_LoadsIndirect :
    (put (kernel.setReg 1 0xDFFFFFFF) 0x1FFFFFFF [0x80]).Readable 1 0xDFFFFFFF 0x80 ∧
    (put (kernel.setReg 1 0xDFFFFFFE) 0x1FFFFFFE [0x80, 0x01]).Readable 2 0xDFFFFFFE 0x8001 ∧
    (put (kernel.setReg 1 0xDFFFFFFC) 0x1FFFFFFC [1, 2, 3, 4]).Readable 4 0xDFFFFFFC 0x01020304 ∧
    ({ kernel with expevt := 0x160 } : State).Readable 4 0xFFFFFFD4 0x160 ∧
    (kernel.declareShared 0x2000 1).Readable 1 0x2000 (Config.oracle 0 0x2000).toNat ∧
    (user.setReg 1 0x80000000).BadAddress 1 0x80000000 ∧ (kernel.setReg 1 0x2001).BadAddress 2 0x2001 ∧
    (kernel.setReg 1 0x2002).BadAddress 4 0x2002 :=
  ⟨.inl ⟨mayAccess_of (by decide), gives_of [0x80] (by decide)⟩,
    .inl ⟨mayAccess_of (by decide), gives_of [0x80, 0x01] (by decide)⟩,
    .inl ⟨mayAccess_of (by decide), gives_of [1, 2, 3, 4] (by decide)⟩,
    .inr ⟨rfl, .expevt, ⟨by decide, by decide⟩, rfl⟩, .inl ⟨mayAccess_of (by decide), gives_shared (by decide)⟩, badAddress_of (by decide), badAddress_of (by decide),
    badAddress_of (by decide)⟩

/-- The addresses of the indexed and GBR forms, with a sum that wraps. -/
theorem witness_LoadsIndexed :
    (put ((kernel.setReg 0 0xFFFFF000).setReg 1 0x3010) 0x2010 [1, 2, 3, 4]).Readable 4
      (((kernel.setReg 0 0xFFFFF000).setReg 1 0x3010).reg 1 + ((kernel.setReg 0 0xFFFFF000).setReg 1 0x3010).reg 0)
      0x01020304 ∧
    (put { kernel with gbr := 0x4000 } 0x40FF [0x81]).Readable 1 (0x4000 + (0xFF#8).setWidth 32) 0x81 ∧
    (put { kernel with gbr := 0x4000 } 0x41FE [0x81, 0x02]).Readable 2 (0x4000 + (0xFF#8).setWidth 32 * 2) 0x8102 ∧
    ({ kernel with gbr := 0x4001 } : State).BadAddress 4 (0x4001 + (0xFF#8).setWidth 32 * 4) :=
  ⟨.inl ⟨mayAccess_of (by decide), gives_of [1, 2, 3, 4] (by decide)⟩,
    .inl ⟨mayAccess_of (by decide), gives_of [0x81] (by decide)⟩,
    .inl ⟨mayAccess_of (by decide), gives_of [0x81, 0x02] (by decide)⟩, badAddress_of (by decide)⟩

theorem witness_LoadsPostIncrement : (1 : Reg) ≠ 2 ∧
    (put (kernel.setReg 1 0x2000) 0x2000 [0xFF]).Readable 1 ((put (kernel.setReg 1 0x2000) 0x2000 [0xFF]).reg 1) 0xFF ∧
    (put (kernel.setReg 1 0x2000) 0x2000 [0xFF, 0xFE]).Readable 2 ((put (kernel.setReg 1 0x2000) 0x2000 [0xFF, 0xFE]).reg 1)
      0xFFFE ∧
    (put (kernel.setReg 1 0x2000) 0x2000 [1, 2, 3, 4]).Readable 4 ((put (kernel.setReg 1 0x2000) 0x2000 [1, 2, 3, 4]).reg 1)
      0x01020304 ∧ (kernel.setReg 1 0x2002).BadAddress 4 ((kernel.setReg 1 0x2002).reg 1) :=
  ⟨by decide, .inl ⟨mayAccess_of (by decide), gives_of [0xFF] (by decide)⟩,
    .inl ⟨mayAccess_of (by decide), gives_of [0xFF, 0xFE] (by decide)⟩,
    .inl ⟨mayAccess_of (by decide), gives_of [1, 2, 3, 4] (by decide)⟩, badAddress_of (by decide)⟩

theorem witness_StoresIndirect : (kernel.setReg 1 0xDFFFFFFF).MayAccess 1 ((kernel.setReg 1 0xDFFFFFFF).reg 1) ∧
    (kernel.setReg 1 0xDFFFFFFE).MayAccess 2 ((kernel.setReg 1 0xDFFFFFFE).reg 1) ∧
    (user.setReg 1 0x7FFFFFC0).MayAccess 4 ((user.setReg 1 0x7FFFFFC0).reg 1 + (0xF#4).setWidth 32 * 4) ∧
    (user.setReg 1 0x80000000).BadAddress 1 ((user.setReg 1 0x80000000).reg 1) ∧
    (kernel.setReg 1 0x2001).BadAddress 2 ((kernel.setReg 1 0x2001).reg 1) ∧
    (kernel.setReg 1 0x2001).BadAddress 4 ((kernel.setReg 1 0x2001).reg 1 + (0xF#4).setWidth 32 * 4) :=
  ⟨mayAccess_of (by decide), mayAccess_of (by decide), mayAccess_of (by decide), badAddress_of (by decide),
    badAddress_of (by decide), badAddress_of (by decide)⟩

theorem witness_StoresIndexed :
    ((kernel.setReg 0 0xFFFFFFFF).setReg 1 0x2001).MayAccess 4
      (((kernel.setReg 0 0xFFFFFFFF).setReg 1 0x2001).reg 1 + ((kernel.setReg 0 0xFFFFFFFF).setReg 1 0x2001).reg 0) ∧
    ({ kernel with gbr := 0x4000 } : State).MayAccess 2 (0x4000 + (0xFF#8).setWidth 32 * 2) ∧
    ({ kernel with gbr := 0x4001 } : State).BadAddress 2 (0x4001 + (0xFF#8).setWidth 32 * 2) ∧
    ({ user with gbr := 0x80000000 } : State).BadAddress 1 (0x80000000 + (0x00#8).setWidth 32) :=
  ⟨mayAccess_of (by decide), mayAccess_of (by decide), badAddress_of (by decide), badAddress_of (by decide)⟩

/-- A decrement through 0 reaches P4, which is no place to store; one from 4 reaches address 0. -/
theorem witness_StoresPreDecrement : (kernel.setReg 1 4).MayAccess 4 ((kernel.setReg 1 4).reg 1 - 4) ∧
    (kernel.setReg 1 2).MayAccess 2 ((kernel.setReg 1 2).reg 1 - 2) ∧
    (kernel.setReg 1 1).MayAccess 1 ((kernel.setReg 1 1).reg 1 - 1) ∧
    (kernel.setReg 1 5).BadAddress 4 ((kernel.setReg 1 5).reg 1 - 4) ∧
    (user.setReg 1 0).BadAddress 1 ((user.setReg 1 0).reg 1 - 1) :=
  ⟨mayAccess_of (by decide), mayAccess_of (by decide), mayAccess_of (by decide), badAddress_of (by decide),
    badAddress_of (by decide)⟩

/-- The two equations have one solution for every state: here for m ≠ n, and for m = n, where the instruction is refused. -/
theorem witness_DivisionStep :
    (4 = (2 * ((kernel.setReg 1 2).reg 1).toNat + kernel.flagT.toNat) % 2 ^ 32 ∧ 0 = ((kernel.setReg 1 2).reg 0).toNat ∧
      (0 : Reg) ≠ 1) ∧
    2 = ((kernel.setReg 1 2).reg 1).toNat ∧ exec (.div1 1 1) (kernel.setReg 1 2) = .refused (.sameRegister 1) :=
  ⟨by decide, by decide, rfl⟩

/-- `MAC` through two registers, and through one, where it is refused; products that pass the bounds of MACL on each side, and one that does
not. -/
def macOperands : State := put (put ((kernel.setReg 4 0x2000).setReg 5 0x2010) 0x2000 [0, 2, 0, 3]) 0x2010 [0, 3, 0, 1]

theorem witness_MacAccumulates :
    (macOperands.Readable 4 (macOperands.reg 5) 0x00030001 ∧ macOperands.nextAnswers.Readable 4 (macOperands.reg 4) 0x00020003) ∧
    (macOperands.Readable 2 (macOperands.reg 5) 0x0003 ∧ macOperands.nextAnswers.Readable 2 (macOperands.reg 4) 0x0002) ∧
    ((4 : Reg) ≠ 5 ∧ exec (.macL 5 5) macOperands = .refused (.sameRegister 5) ∧
      exec (.macW 5 5) macOperands = .refused (.sameRegister 5)) ∧
    ((macOperands.setS true).flagS = true ∧ macOperands.flagS = false) ∧
    ((0x7FFFFFFF#32).toInt + (3#16).toInt * (2#16).toInt > 2 ^ 31 - 1 ∧
      (0x80000000#32).toInt + (0xFFFF#16).toInt * (1#16).toInt < -2 ^ 31 ∧
      (0x7FFFFFFF#32).toInt + (0xFFFF#16).toInt * (1#16).toInt ≤ 2 ^ 31 - 1) ∧
    (kernel.setReg 5 0x2002).BadAddress 4 ((kernel.setReg 5 0x2002).reg 5) :=
  ⟨⟨.inl ⟨mayAccess_of (by decide), gives_of [0, 3, 0, 1] (by decide)⟩,
      .inl ⟨mayAccess_of (by decide), gives_of [0, 2, 0, 3] (by decide)⟩⟩,
    ⟨.inl ⟨mayAccess_of (by decide), gives_of [0, 3] (by decide)⟩,
      .inl ⟨mayAccess_of (by decide), gives_of [0, 2] (by decide)⟩⟩,
    ⟨by decide, rfl, rfl⟩, by decide, by decide, badAddress_of (by decide)⟩

/-- In user mode, the second operand at the first address that user mode may not read. -/
def macUser : State := { macOperands.setReg 4 0x80000000 with sr := 0 }

/-- The second read is misaligned, or the first longword, or word, that user mode may not read; with m = n there is none. -/
theorem witness_MacSecondReadRaises :
    ((macOperands.setReg 4 0x2001).Readable 4 ((macOperands.setReg 4 0x2001).reg 5) 0x00030001 ∧
      (macOperands.setReg 4 0x2001).BadAddress 4 ((macOperands.setReg 4 0x2001).reg 4)) ∧
    ((macOperands.setReg 4 0x2001).Readable 2 ((macOperands.setReg 4 0x2001).reg 5) 0x0003 ∧
      (macOperands.setReg 4 0x2001).BadAddress 2 ((macOperands.setReg 4 0x2001).reg 4)) ∧
    (macUser.Readable 4 (macUser.reg 5) 0x00030001 ∧ macUser.BadAddress 4 (macUser.reg 4)) ∧
    (macUser.Readable 2 (macUser.reg 5) 0x0003 ∧ macUser.BadAddress 2 (macUser.reg 4)) ∧
    (4 : Reg) ≠ 5 ∧ exec (.macL 4 4) (macOperands.setReg 4 0x2001) = .refused (.sameRegister 4) ∧
    exec (.macW 4 4) (macOperands.setReg 4 0x2001) = .refused (.sameRegister 4) :=
  ⟨⟨.inl ⟨mayAccess_of (by decide), gives_of [0, 3, 0, 1] (by decide)⟩, badAddress_of (by decide)⟩,
    ⟨.inl ⟨mayAccess_of (by decide), gives_of [0, 3] (by decide)⟩, badAddress_of (by decide)⟩,
    ⟨.inl ⟨mayAccess_of (by decide), gives_of [0, 3, 0, 1] (by decide)⟩, badAddress_of (by decide)⟩,
    ⟨.inl ⟨mayAccess_of (by decide), gives_of [0, 3] (by decide)⟩, badAddress_of (by decide)⟩, by decide, rfl, rfl⟩

/-- The second address is the first of P4, a longword beside the event registers, or one at which nothing is written; with
m = n the instruction is refused before it reads. -/
theorem witness_MacSecondReadStops :
    ((macOperands.setReg 4 0xE0000000).Readable 4 ((macOperands.setReg 4 0xE0000000).reg 5) 0x00030001 ∧
      ¬ (macOperands.setReg 4 0xE0000000).BadAddress 4 0xE0000000 ∧
      ∀ r, ¬ (macOperands.setReg 4 0xE0000000).ReachesEvent 0xE0000000 r) ∧
    ((macOperands.setReg 4 0xFFFFFFD0).Readable 2 ((macOperands.setReg 4 0xFFFFFFD0).reg 5) 0x0003 ∧
      ¬ (macOperands.setReg 4 0xFFFFFFD0).BadAddress 2 0xFFFFFFD0) ∧
    ((macOperands.setReg 4 0x2004).Readable 2 ((macOperands.setReg 4 0x2004).reg 5) 0x0003 ∧
      ¬ (macOperands.setReg 4 0x2004).BadAddress 2 0x2004 ∧ 0x2004 ∈ span (place 0x2004) 2 ∧
      (macOperands.setReg 4 0x2004).mem.read 0x2004 = none ∧ 0x2004 ∉ (macOperands.setReg 4 0x2004).shared) ∧
    (4 : Reg) ≠ 5 ∧ exec (.macL 4 4) (macOperands.setReg 4 0xE0000000) = .refused (.sameRegister 4) ∧
    exec (.macW 4 4) (macOperands.setReg 4 0xE0000000) = .refused (.sameRegister 4) :=
  ⟨⟨.inl ⟨mayAccess_of (by decide), gives_of [0, 3, 0, 1] (by decide)⟩, notBad_of (by decide), fun r h => by
      rcases h.2 with ⟨-, h⟩ | ⟨-, h⟩ | ⟨-, h⟩ <;> exact absurd h (by decide)⟩,
    ⟨.inl ⟨mayAccess_of (by decide), gives_of [0, 3] (by decide)⟩, notBad_of (by decide)⟩,
    ⟨.inl ⟨mayAccess_of (by decide), gives_of [0, 3] (by decide)⟩, notBad_of (by decide), by decide, by decide, by decide⟩,
    by decide, rfl, rfl⟩

/-- A byte at GBR + R0 and one at Rn; user mode at 0x80000000. -/
theorem witness_LogicBytes :
    (put { kernel.setReg 0 4 with gbr := 0x2000 } 0x2004 [0xF3]).Readable 1 (0x2000 + (kernel.setReg 0 4).reg 0) 0xF3 ∧
    (put (kernel.setReg 1 0x2001) 0x2001 [0x00]).Readable 1 ((kernel.setReg 1 0x2001).reg 1) 0 ∧
    ({ user.setReg 0 4 with gbr := 0x7FFFFFFC } : State).BadAddress 1 (0x7FFFFFFC + (user.setReg 0 4).reg 0) ∧
    (user.setReg 1 0x80000000).BadAddress 1 ((user.setReg 1 0x80000000).reg 1) :=
  ⟨.inl ⟨mayAccess_of (by decide), gives_of [0xF3] (by decide)⟩,
    .inl ⟨mayAccess_of (by decide), gives_of [0x00] (by decide)⟩, badAddress_of (by decide), badAddress_of (by decide)⟩

theorem witness_ConditionalBranches : (0x0F04 : Word) = kernel.pc + 4 + 2 * (0x80#8).signExtend 32 ∧ kernel.slot = none ∧
    ({ kernel with slot := some 0x2000 } : State).slot ≠ none ∧ kernel.flagT = false ∧ (kernel.setT true).flagT = true := by
  decide

theorem witness_JumpsAndCalls : kernel.slot = none ∧ ({ kernel with slot := some 0x2000 } : State).slot ≠ none := by decide

/-- Both modes, outside and in a slot. -/
theorem witness_LoadControlRegisters : kernel.privileged = true ∧ user.privileged = false ∧ user.slot = none ∧
    ({ user with slot := some 0x2000 } : State).slot ≠ none := by decide

theorem witness_StoreControlRegisters : kernel.privileged = true ∧ user.privileged = false ∧ user.slot = none ∧
    ({ user with slot := some 0x2000 } : State).slot ≠ none := by decide

theorem witness_PopControlRegisters : kernel.privileged = true ∧ user.privileged = false ∧
    (put (kernel.setReg 1 0x3000) 0x3000 [1, 2, 3, 4]).Readable 4 ((put (kernel.setReg 1 0x3000) 0x3000 [1, 2, 3, 4]).reg 1)
      0x01020304 ∧
    (put (user.setReg 1 0x3000) 0x3000 [1, 2, 3, 4]).Readable 4 ((put (user.setReg 1 0x3000) 0x3000 [1, 2, 3, 4]).reg 1)
      0x01020304 ∧ (kernel.setReg 1 0x3002).BadAddress 4 ((kernel.setReg 1 0x3002).reg 1) :=
  ⟨by decide, by decide, .inl ⟨mayAccess_of (by decide), gives_of [1, 2, 3, 4] (by decide)⟩,
    .inl ⟨mayAccess_of (by decide), gives_of [1, 2, 3, 4] (by decide)⟩, badAddress_of (by decide)⟩

theorem witness_PushControlRegisters : kernel.privileged = true ∧ user.privileged = false ∧
    (kernel.setReg 15 0x3000).MayAccess 4 ((kernel.setReg 15 0x3000).reg 15 - 4) ∧
    (user.setReg 15 0x80000000).MayAccess 4 ((user.setReg 15 0x80000000).reg 15 - 4) ∧
    (kernel.setReg 15 0x3002).BadAddress 4 ((kernel.setReg 15 0x3002).reg 15 - 4) :=
  ⟨by decide, by decide, mayAccess_of (by decide), mayAccess_of (by decide), badAddress_of (by decide)⟩

theorem witness_LoadStatusRegister : kernel.slot = none ∧ kernel.privileged = true ∧ user.slot = none ∧
    user.privileged = false ∧ ({ kernel with slot := some 0x2000 } : State).slot ≠ none ∧
    (put (kernel.setReg 1 0x3000) 0x3000 [0x60, 0, 0, 0]).Readable 4
      ((put (kernel.setReg 1 0x3000) 0x3000 [0x60, 0, 0, 0]).reg 1) 0x60000000 ∧
    (kernel.setReg 1 0x3002).BadAddress 4 ((kernel.setReg 1 0x3002).reg 1) :=
  ⟨by decide, by decide, by decide, by decide, by decide,
    .inl ⟨mayAccess_of (by decide), gives_of [0x60, 0, 0, 0] (by decide)⟩, badAddress_of (by decide)⟩

theorem witness_TrapAndReturn : kernel.slot = none ∧ kernel.blocked = false ∧ kernel.privileged = true ∧
    user.privileged = false ∧ user.slot = none ∧ ({ kernel with slot := some 0x2000 } : State).slot ≠ none := by decide

theorem witness_SleepAndLdtlb : kernel.privileged = true ∧ user.privileged = false ∧ user.slot = none ∧
    ({ user with slot := some 0x2000 } : State).slot ≠ none := by decide

end Sys2Proof.Tests
end

section
/-! PROOFS. The banks of the general registers (10_state.md R21 to R24, R39). -/

namespace Sys2Proof.Machine

variable (s : State)

/-! ## Bank selection -/

theorem State.frontIsBank1_iff : s.frontIsBank1 = true ↔ s.privileged = true ∧ s.rb = true := by
  simp [State.frontIsBank1]

/-- R0 to R7 lie in the front bank (R23, R24). -/
theorem State.reg_of_lt {r : Reg} (h : r.val < 8) :
    s.reg r = if s.privileged = true ∧ s.rb = true then s.bank1[r.val] else s.bank0[r.val] := by
  simp only [State.reg, dif_pos h, State.frontIsBank1_iff]

/-- R8 to R15 have one copy (R21). -/
theorem State.reg_of_ge {r : Reg} (h : 8 ≤ r.val) : s.reg r = s.high[r.val - 8] := by
  simp only [State.reg, dif_neg (Nat.not_lt.mpr h)]

/-- The back bank is the one that is not in front (R24, R39). -/
theorem State.backReg_eq (b : BankReg) :
    s.backReg b = if s.privileged = true ∧ s.rb = true then s.bank0[b.val] else s.bank1[b.val] := by
  simp only [State.backReg, State.frontIsBank1_iff]

/-- Settles O17: the reading laws above, and the laws of register writes. -/
theorem bankSelection : Obligations.BankSelection := by
  intro s
  refine ⟨fun r h => s.reg_of_lt h, fun r h => s.reg_of_ge h, s.backReg_eq, ?writeFront, ?writeBack, ?writeSr⟩
  case writeFront => exact fun r q b v => ⟨s.reg_setReg r q v, s.backReg_setReg r b v⟩
  case writeBack => exact fun r b c v => ⟨s.backReg_setBackReg b c v, s.reg_setBackReg b r v⟩
  case writeSr => exact fun v => ⟨s.setSr_bank0 v, s.setSr_bank1 v, s.setSr_high v⟩

end Sys2Proof.Machine
end

section
/-! PROOFS. The byte order of words and longwords, and what a load sees after a store (20_memory.md R61, R67, R69). -/

namespace Sys2Proof.Machine

/-! ## Byte order -/

theorem join2_eq (e : Endian) (b0 b1 : Byte) : e.join2 b0 b1 = if e = .big then b0 ++ b1 else b1 ++ b0 := by
  cases e <;> rfl

theorem join4_eq (e : Endian) (b0 b1 b2 b3 : Byte) :
    e.join4 b0 b1 b2 b3 = if e = .big then b0 ++ b1 ++ b2 ++ b3 else b3 ++ b2 ++ b1 ++ b0 := by
  cases e <;> rfl

/-- The byte of a longword at offset k from its address (R61). -/
theorem getElem_split4 (e : Endian) (v : Word) {k : Nat} (hk : k < (e.split4 v).length) :
    (e.split4 v)[k] = v.extractLsb' (8 * (if e = .big then 3 - k else k)) 8 := by
  rw [length_split4] at hk
  cases e with
  | big => interval_cases k <;> rfl
  | little => interval_cases k <;> rfl

variable {s : State} {a : Word}

/-! ## Loads from the bytes that are read -/

theorem State.loadByte_of_byte (hm : s.MayAccess 1 a) {b : Byte} (h : s.readByte (place a) = some b) (k : AccessKind) :
    s.loadByte k a = .ok b := by
  simp [State.loadByte, State.locate_memory hm, Access.bind, State.byteAt_some h]

theorem State.loadWord_of_bytes (hm : s.MayAccess 2 a) {b0 b1 : Byte} (h0 : s.readByte (place a) = some b0)
    (h1 : s.readByte (place a + 1) = some b1) (k : AccessKind) : s.loadWord k a = .ok (s.endian.join2 b0 b1) := by
  simp [State.loadWord, State.locate_memory hm, Access.bind, State.byteAt_some h0, State.byteAt_some h1]

theorem State.loadLong_of_bytes (hm : s.MayAccess 4 a) {b0 b1 b2 b3 : Byte} (h0 : s.readByte (place a) = some b0)
    (h1 : s.readByte (place a + 1) = some b1) (h2 : s.readByte (place a + 2) = some b2)
    (h3 : s.readByte (place a + 3) = some b3) (k : AccessKind) : s.loadLong k a = .ok (s.endian.join4 b0 b1 b2 b3) := by
  simp [State.loadLong, State.locate_memory hm, Access.bind, State.byteAt_some h0, State.byteAt_some h1,
    State.byteAt_some h2, State.byteAt_some h3]

/-! ## The bytes of a longword by themselves -/

theorem State.MayAccess.aligned {n : Nat} (h : s.MayAccess n a) : a.toNat % n = 0 := by
  by_contra hmis
  exact h.1 (.inl hmis)

theorem State.MayAccess.lt_of_user {n : Nat} (h : s.MayAccess n a) (hu : s.privileged = false) :
    a.toNat < 0x80000000 := by
  by_contra hge
  exact h.1 (.inr ⟨hu, by omega⟩)

/-- Within a longword below P4 no address wraps. -/
theorem State.MayAccess.toNat_add (h : s.MayAccess 4 a) {k : Nat} (hk : k < 4) :
    (a + BitVec.ofNat 32 k).toNat = a.toNat + k := by
  have hlt := h.2
  rw [BitVec.toNat_add, BitVec.toNat_ofNat]
  omega

/-- An aligned longword lies within one segment. -/
theorem State.MayAccess.place_add (h : s.MayAccess 4 a) {k : Nat} (hk : k < 4) :
    place (a + BitVec.ofNat 32 k) = place a + k := by
  have haligned := h.aligned
  simp only [place, h.toNat_add hk]
  omega

/-- Where a longword may be accessed, so may each of its bytes. -/
theorem State.MayAccess.byte (h : s.MayAccess 4 a) {k : Nat} (hk : k < 4) :
    s.MayAccess 1 (a + BitVec.ofNat 32 k) := by
  have haligned := h.aligned
  have hlt := h.2
  rw [State.MayAccess, State.BadAddress, h.toNat_add hk]
  refine ⟨?_, by omega⟩
  rintro (hmis | ⟨hu, hge⟩)
  · omega
  · have := h.lt_of_user hu
    omega

/-! ## Reads after stores -/

/-- A byte that a store wrote and no other agent writes (R69). -/
theorem State.readByte_storeBytes {p k : Nat} {l : List Byte} (hk : k < l.length) (hs : p + k ∉ s.shared) :
    (s.storeBytes p l).readByte (p + k) = some l[k] := by
  rw [State.readByte_own (by simpa using hs), State.storeBytes_mem, Memory.read_writeBytes, if_pos (by omega),
    Nat.add_sub_cancel_left, List.getElem?_eq_getElem hk]

/-- A store leaves every address as accessible as it was. -/
theorem State.mayAccess_storeBytes {n p : Nat} {l : List Byte} (h : s.MayAccess n a) :
    (s.storeBytes p l).MayAccess n a := h

/-- The value that was stored is readable where no byte of it is shared (R69). -/
theorem State.readable_storeBytes {l : List Byte} (h : s.MayAccess l.length a)
    (hs : ∀ x ∈ span (place a) l.length, x ∉ s.shared) :
    (s.storeBytes (place a) l).Readable l.length a (bytesValue s.endian l) :=
  .inl ⟨State.mayAccess_storeBytes h, (s.holds_storeBytes (place a) l).gives hs⟩

theorem State.loadByte_storeBytes (h : s.MayAccess 1 a) (hs : place a ∉ s.shared) (v : Byte) (k : AccessKind) :
    (s.storeBytes (place a) [v]).loadByte k a = .ok v :=
  State.loadByte_of_byte (State.mayAccess_storeBytes h) (State.readByte_storeBytes (k := 0) (by simp) hs) k

theorem State.loadWord_storeBytes (h : s.MayAccess 2 a) (hs : ∀ x ∈ span (place a) 2, x ∉ s.shared) (v : Half)
    (k : AccessKind) : (s.storeBytes (place a) (s.endian.split2 v)).loadWord k a = .ok v := by
  have hread := State.readable_storeBytes (l := s.endian.split2 v) (by simpa using h) (by simpa using hs)
  rw [length_split2, bytesValue_split2] at hread
  rw [State.loadWord_readable hread, BitVec.ofNat_toNat, BitVec.setWidth_eq]

theorem State.loadLong_storeBytes (h : s.MayAccess 4 a) (hs : ∀ x ∈ span (place a) 4, x ∉ s.shared) (v : Word)
    (k : AccessKind) : (s.storeBytes (place a) (s.endian.split4 v)).loadLong k a = .ok v := by
  have hread := State.readable_storeBytes (l := s.endian.split4 v) (by simpa using h) (by simpa using hs)
  rw [length_split4, bytesValue_split4] at hread
  rw [State.loadLong_readable hread, BitVec.ofNat_toNat, BitVec.setWidth_eq]

/-- The byte at offset k of a stored longword (R61). -/
theorem State.loadByte_storeBytes_split4 (h : s.MayAccess 4 a) (hs : ∀ x ∈ span (place a) 4, x ∉ s.shared) (v : Word)
    {k : Nat} (hk : k < 4) (kind : AccessKind) :
    (s.storeBytes (place a) (s.endian.split4 v)).loadByte kind (a + BitVec.ofNat 32 k) =
      .ok (v.extractLsb' (8 * (if s.endian = .big then 3 - k else k)) 8) := by
  have hlen : k < (s.endian.split4 v).length := by rwa [length_split4]
  have hown : place a + k ∉ s.shared := hs _ ((mem_span ..).2 ⟨by omega, by omega⟩)
  refine State.loadByte_of_byte (State.mayAccess_storeBytes (h.byte hk)) ?_ kind
  rw [h.place_add hk, State.readByte_storeBytes hlen hown, getElem_split4]

/-! ## What a store of each size answers -/

theorem State.storeWord_spec (h : s.MayAccess 2 a) (v : Half) :
    ∃ t, s.storeWord a v = .ok t ∧ t.Holds 2 (place a) v.toNat ∧
      ((∀ x ∈ span (place a) 2, x ∉ s.shared) → t.loadWord .read a = .ok v) := by
  refine ⟨_, State.storeWord_memory h v, ?_, fun hs => State.loadWord_storeBytes h hs v .read⟩
  simpa [bytesValue_split2] using s.holds_storeBytes (place a) (s.endian.split2 v)

theorem State.storeLong_spec (h : s.MayAccess 4 a) (v : Word) :
    ∃ t, s.storeLong a v = .ok t ∧ t.Holds 4 (place a) v.toNat ∧
      ((∀ x ∈ span (place a) 4, x ∉ s.shared) → t.loadLong .read a = .ok v ∧
        ∀ k < 4, t.loadByte .read (a + BitVec.ofNat 32 k) =
          .ok (v.extractLsb' (8 * (if s.endian = .big then 3 - k else k)) 8)) := by
  refine ⟨_, State.storeLong_memory h v, ?_, fun hs => ⟨State.loadLong_storeBytes h hs v .read, fun k hk =>
    State.loadByte_storeBytes_split4 h hs v hk .read⟩⟩
  simpa [bytesValue_split4] using s.holds_storeBytes (place a) (s.endian.split4 v)

/-- Settles O18: a load joins the bytes it reads, a store splits its value into them, and a shared byte reads as the
oracle says. -/
theorem byteOrder : Obligations.ByteOrder := by
  intro s a
  refine ⟨?readWord, ?readLong, fun hm v => State.storeWord_spec hm v, fun hm v => State.storeLong_spec hm v, ?byte⟩
  case readWord =>
    intro hm b0 b1 h0 h1
    rw [State.loadWord_of_bytes hm h0 h1, join2_eq]
  case readLong =>
    intro hm b0 b1 b2 b3 h0 h1 h2 h3
    rw [State.loadLong_of_bytes hm h0 h1 h2 h3, join4_eq]
  case byte =>
    intro hm
    exact ⟨fun hs => State.loadByte_of_byte hm (State.readByte_shared hs) .read,
      fun hs v => ⟨_, State.storeByte_memory hm v, State.loadByte_storeBytes hm hs v .read⟩⟩

end Sys2Proof.Machine
end

section
/-! PROOFS. The form of a state (State.Inv): the reserved bits of SR and of the event registers, and that reset operation and
the entry of exceptions and interrupts keep the form (10_state.md R34, R44, 60_exceptions.md R370 to R374, R380,
70_reset_and_hazards.md R410). -/

namespace Sys2Proof.Machine

variable {s t u : State}

/-! ## Reserved bits -/

/-- The mask of the reserved bits of SR, bit by bit. -/
theorem getLsbD_reserved {k : Nat} (hk : k < 32) : (0x8FFFFC0C : Word).getLsbD k = !decide (k ∈ srFields) := by
  revert k; decide

/-- The reserved bits of SR are those that hold no field. -/
theorem reserved_eq_zero_iff (v : Word) :
    v &&& 0x8FFFFC0C = 0 ↔ ∀ k < 32, k ∉ srFields → v.getLsbD k = false := by
  constructor
  · intro h k hk hf
    have hbit : (v &&& 0x8FFFFC0C).getLsbD k = false := by rw [h]; exact BitVec.getLsbD_zero
    rw [BitVec.getLsbD_and, getLsbD_reserved hk] at hbit
    simpa [hf] using hbit
  · intro h
    apply BitVec.eq_of_getLsbD_eq
    intro k hk
    rw [BitVec.getLsbD_and, getLsbD_reserved hk]
    by_cases hf : k ∈ srFields
    · simp [hf]
    · simp [h k hk hf]

/-- What a mask leaves has no bit outside the mask. -/
theorem and_mask_eq_zero {m r : Word} (h : m &&& r = 0) (v : Word) : v &&& m &&& r = 0 := by
  rw [BitVec.and_assoc, h]; exact BitVec.and_zero

theorem or_reserved_eq_zero {v w r : Word} (hv : v &&& r = 0) (hw : w &&& r = 0) : (v ||| w) &&& r = 0 := by
  rw [BitVec.and_or_distrib_right, hv, hw]; rfl

/-- A read of the whole SR gives 0 in the reserved bits (R34). -/
theorem State.srWord_reserved (s : State) : s.srWord &&& 0x8FFFFC0C = 0 := and_mask_eq_zero (by decide) s.sr

/-- The codes of EXPEVT lie in its layout (R374). -/
theorem Exc.code_layout (e : Exc) : e.code &&& 0xFFFFF000 = 0 := by
  cases e with
  | addressError k _ => cases k <;> simp [Exc.code]
  | reservedInstruction => simp [Exc.code]
  | illegalSlot => simp [Exc.code]
  | trap _ => simp [Exc.code]

theorem ResetKind.code_layout (k : ResetKind) : k.code &&& 0xFFFFF000 = 0 := by cases k <;> decide

/-- The codes of INTEVT lie in its layout (R374, R380). -/
theorem levelCode_layout (l : Fin 16) : levelCode l &&& 0xFFFFF000 = 0 := by revert l; decide

/-- TRA holds the immediate of `TRAPA` in bits 9:2 (R374). -/
theorem trapWord_layout (imm : Byte) : zext8 imm <<< 2 &&& 0xFFFFFC03 = (0 : Word) := by revert imm; decide

/-! ## Reset operation and entry -/

/-- Reset operation keeps the form, if its code lies in the layout of EXPEVT. -/
theorem State.Inv.resetWith (h : s.Inv) {code : Word} (hc : code &&& 0xFFFFF000 = 0) : (s.resetWith code).Inv where
  mem := h.mem
  storedTo := h.storedTo
  shared := h.shared
  sr := or_reserved_eq_zero (by decide) (and_mask_eq_zero (by decide) _)
  tra := and_mask_eq_zero (by decide) _
  expevt := hc
  intevt := and_mask_eq_zero (by decide) _
  asleep := by simp

theorem State.Inv.takeReset (h : s.Inv) (k : ResetKind) : (s.takeReset k).Inv :=
  have hr := h.resetWith k.code_layout
  ⟨hr.mem, hr.storedTo, hr.shared, hr.sr, hr.tra, hr.expevt, hr.intevt, hr.asleep⟩

/-- Entry of an exception or interrupt keeps the form (R370). -/
theorem State.Inv.enter (h : s.Inv) (saved offset : Word) : (s.enter saved offset).Inv where
  mem := h.mem
  storedTo := h.storedTo
  shared := h.shared
  sr := or_reserved_eq_zero s.srWord_reserved (by decide)
  tra := h.tra
  expevt := h.expevt
  intevt := h.intevt
  asleep := by simp

theorem State.Inv.recordExc (h : s.Inv) (e : Exc) : (s.recordExc e).Inv where
  mem := by simpa using h.mem
  storedTo := by simpa using h.storedTo
  shared := by simpa using h.shared
  sr := by simpa using h.sr
  tra := by
    cases e with
    | trap imm => exact trapWord_layout imm
    | addressError _ _ => exact h.tra
    | reservedInstruction => exact h.tra
    | illegalSlot => exact h.tra
  expevt := by simpa using e.code_layout
  intevt := by simpa using h.intevt
  asleep := by simpa using h.asleep

/-- Taking an exception keeps the form, with BL = 1 too (R372). -/
theorem State.Inv.takeExc (h : s.Inv) (e : Exc) : (s.takeExc e).Inv := by
  unfold State.takeExc
  split
  · exact h.resetWith e.code_layout
  · exact (h.recordExc e).enter _ _

theorem State.Inv.enterInterrupt (h : s.Inv) {code : Word} (hc : code &&& 0xFFFFF000 = 0) :
    (s.enterInterrupt code).Inv :=
  State.Inv.enter (s := { s with intevt := code })
    ⟨h.mem, h.storedTo, h.shared, h.sr, h.tra, h.expevt, hc, h.asleep⟩ _ _

/-- What a step does before an instruction keeps the form. -/
theorem State.Inv.before (h : s.Inv) (hb : s.beforeInstruction = some t) : t.Inv := by
  rcases State.before_cases hb with ⟨k, -, rfl⟩ | ⟨-, -, -, -, rfl⟩ | ⟨-, -, -, -, -, rfl⟩ | ⟨-, -, rfl⟩
  · exact h.takeReset k
  · have hi := h.enterInterrupt (code := 0x1C0) (by decide)
    exact ⟨hi.mem, hi.storedTo, hi.shared, hi.sr, hi.tra, hi.expevt, hi.intevt, hi.asleep⟩
  · exact h.enterInterrupt (levelCode_layout s.level)
  · exact h

/-- Settles O25: every clause holds of the fixed values of reset. -/
theorem resetHasForm : Obligations.ResetHasForm :=
  ⟨reset_memory_wf, rfl, rfl, by decide, by decide, by decide, by decide, by simp [State.reset]⟩

/-- Settles O11: the values of R44, read off State.reset. -/
theorem resetState : Obligations.ResetState := by
  unfold Obligations.ResetState
  decide

end Sys2Proof.Machine
end

section
/-! PROOFS. What an instruction can do, said once for all of them: which updates lead to the state it leaves, and how it ends
(10_state.md R24 to R34, 44_branch.md R260, R262, 45_system_control.md R280, 60_exceptions.md R370). -/

namespace Sys2Proof.Machine

variable {s t u : State} {bits : List Nat}

/-! ## Updates -/

/-- The fields of SR that user mode leaves alone: I, BL, RB and MD (R30 to R33). -/
def systemBits : List Nat := [4, 5, 6, 7, 28, 29, 30]

/-- The registers that user mode leaves alone, beside bank 1 (R46, R280). -/
def systemParts : List Part := [.vbr, .ssr, .spc, .tra, .expevt, .intevt]

/-- From s to u nothing has changed that only privileged mode and exceptions may change. -/
structure Confined (s u : State) : Prop where
  srBit : ∀ k ∈ systemBits, u.sr.getLsbD k = s.sr.getLsbD k
  part : ∀ p ∈ systemParts, u.part p = s.part p
  bank1 : u.bank1 = s.bank1

/-- u comes from s by updates of registers and memory, of the fields of SR only at `bits`, as an instruction makes them
before it completes: they keep the form of the state, and in user mode the privileged part of it. -/
structure Updates (bits : List Nat) (s u : State) : Prop where
  srBit : ∀ k ∈ srFields, k ∉ bits → u.sr.getLsbD k = s.sr.getLsbD k
  pc : u.pc = s.pc
  slot : u.slot = s.slot
  asleep : u.asleep = s.asleep
  form : s.Inv → u.Inv
  confined : s.privileged = false → Confined s u

theorem Confined.privileged (h : Confined s u) : u.privileged = s.privileged := h.srBit 30 (by decide)

theorem Confined.trans (h : Confined s u) (h' : Confined u t) : Confined s t where
  srBit k hk := (h'.srBit k hk).trans (h.srBit k hk)
  part p hp := (h'.part p hp).trans (h.part p hp)
  bank1 := h'.bank1.trans h.bank1

theorem Updates.refl (s : State) : Updates bits s s :=
  ⟨fun _ _ _ => rfl, rfl, rfl, rfl, id, fun _ => ⟨fun _ _ => rfl, fun _ _ => rfl, rfl⟩⟩

theorem Updates.trans (h : Updates bits s u) (h' : Updates bits u t) : Updates bits s t where
  srBit k hk hb := (h'.srBit k hk hb).trans (h.srBit k hk hb)
  pc := h'.pc.trans h.pc
  slot := h'.slot.trans h.slot
  asleep := h'.asleep.trans h.asleep
  form hi := h'.form (h.form hi)
  confined hp := (h.confined hp).trans (h'.confined ((h.confined hp).privileged.trans hp))

theorem Updates.mono {bits' : List Nat} (h : Updates bits s u) (hb : bits ⊆ bits') : Updates bits' s u :=
  ⟨fun k hk hn => h.srBit k hk fun hm => hn (hb hm), h.pc, h.slot, h.asleep, h.form, h.confined⟩

/-- In user mode bank 1 is the back bank (R24). -/
theorem backReg_of_user (hp : s.privileged = false) (b : BankReg) : s.backReg b = s.bank1[b.val] := by
  simp [State.backReg_eq, hp]

/-- Where a frame leaves the event registers and the bytes of memory alone, and in user mode all that is privileged, it is
one of updates. -/
theorem Kept.updates {regs : List Reg} {k : List Nat} {parts : List Part} (h : Kept regs k parts [] s u)
    (hbits : ∀ j ∈ k, j ∈ bits ∧ j ∈ srFields ∧ j ∉ systemBits) (hevent : ∀ p ∈ [Part.tra, .expevt, .intevt], p ∉ parts)
    (huser : s.privileged = true ∨ ∀ p ∈ parts, p ∈ [.gbr, .mach, .macl, .pr])
    (hpc : u.pc = s.pc) (hslot : u.slot = s.slot) (hmem : u.mem = s.mem) (hstored : u.storedTo = s.storedTo) :
    Updates bits s u where
  srBit j hj hb := h.srBit j fun hk => hb (hbits j hk).1
  pc := hpc
  slot := hslot
  asleep := h.asleep
  form hi :=
    { mem := hmem ▸ hi.mem
      storedTo := hstored ▸ hi.storedTo
      shared := h.shared ▸ hi.shared
      sr := by
        refine (reserved_eq_zero_iff _).2 fun j hj hf => ?_
        rw [h.srBit j fun hk => hf (hbits j hk).2.1]
        exact (reserved_eq_zero_iff _).1 hi.sr j hj hf
      tra := by rw [show u.tra = s.tra from h.part .tra (hevent .tra (by simp))]; exact hi.tra
      expevt := by rw [show u.expevt = s.expevt from h.part .expevt (hevent .expevt (by simp))]; exact hi.expevt
      intevt := by rw [show u.intevt = s.intevt from h.part .intevt (hevent .intevt (by simp))]; exact hi.intevt
      asleep := by rw [h.asleep, hslot]; exact hi.asleep }
  confined hp := by
    have huser : ∀ p ∈ parts, p ∈ [.gbr, .mach, .macl, .pr] := huser.resolve_left (by simp [hp])
    have hsr : ∀ j ∈ systemBits, u.sr.getLsbD j = s.sr.getLsbD j := fun j hj =>
      h.srBit j fun hk => (hbits j hk).2.2 hj
    have hup : u.privileged = false := (hsr 30 (by decide)).trans hp
    refine ⟨hsr, fun p hm => h.part p fun hk => ?_, Vector.ext fun b hb => ?_⟩
    · have hd : ∀ q ∈ [Part.gbr, .mach, .macl, .pr], q ∉ systemParts := by decide
      exact hd p (huser p hk) hm
    · have hback := h.part (.back ⟨b, hb⟩) fun hk => by simpa using huser _ hk
      simpa [State.part, backReg_of_user hp, backReg_of_user hup] using hback

section
variable (h : Updates bits s u)
include h

/-! ### Registers that every mode may write -/

theorem Updates.setReg (n : Reg) (v : Word) : Updates bits s (u.setReg n v) :=
  h.trans ((Kept.setReg u n v).updates (by simp) (by simp) (.inr (by simp)) (by simp) (by simp) (by simp) (by simp))

theorem Updates.setMac (v : BitVec 64) : Updates bits s (u.setMac v) :=
  h.trans ((Kept.setMac u v).updates (by simp) (by simp) (.inr (by simp)) rfl rfl rfl rfl)

theorem Updates.setGbr (v : Word) : Updates bits s (u.setGbr v) :=
  h.trans ((Kept.setGbr u v).updates (by simp) (by simp) (.inr (by simp)) rfl rfl rfl rfl)

theorem Updates.setMach (v : Word) : Updates bits s (u.setMach v) :=
  h.trans ((Kept.setMach u v).updates (by simp) (by simp) (.inr (by simp)) rfl rfl rfl rfl)

theorem Updates.setMacl (v : Word) : Updates bits s (u.setMacl v) :=
  h.trans ((Kept.setMacl u v).updates (by simp) (by simp) (.inr (by simp)) rfl rfl rfl rfl)

theorem Updates.setPr (v : Word) : Updates bits s (u.setPr v) :=
  h.trans ((Kept.setPr u v).updates (by simp) (by simp) (.inr (by simp)) rfl rfl rfl rfl)

theorem Updates.setT (b : Bool) (hk : 0 ∈ bits) : Updates bits s (u.setT b) :=
  h.trans ((Kept.setT u b).updates (by simpa [hk] using by decide) (by simp) (.inr (by simp)) rfl rfl rfl rfl)

theorem Updates.setS (b : Bool) (hk : 1 ∈ bits) : Updates bits s (u.setS b) :=
  h.trans ((Kept.setS u b).updates (by simpa [hk] using by decide) (by simp) (.inr (by simp)) rfl rfl rfl rfl)

theorem Updates.setQ (b : Bool) (hk : 8 ∈ bits) : Updates bits s (u.setQ b) :=
  h.trans ((Kept.setQ u b).updates (by simpa [hk] using by decide) (by simp) (.inr (by simp)) rfl rfl rfl rfl)

theorem Updates.setM (b : Bool) (hk : 9 ∈ bits) : Updates bits s (u.setM b) :=
  h.trans ((Kept.setM u b).updates (by simpa [hk] using by decide) (by simp) (.inr (by simp)) rfl rfl rfl rfl)

/-- The counters are the model's own (logs 5 and 22). -/
theorem Updates.nextAnswers : Updates bits s u.nextAnswers :=
  h.trans ((Kept.nextAnswers u).updates (by simp) (by simp) (.inr (by simp)) rfl rfl rfl rfl)

theorem Updates.withFreeCount (c : Nat) : Updates bits s { u with freeCount := c } where
  srBit := h.srBit
  pc := h.pc
  slot := h.slot
  asleep := h.asleep
  form hi := have hu := h.form hi; ⟨hu.mem, hu.storedTo, hu.shared, hu.sr, hu.tra, hu.expevt, hu.intevt, hu.asleep⟩
  confined hp := have hc := h.confined hp; ⟨hc.srBit, hc.part, hc.bank1⟩

/-- A store within memory keeps the canonical form (R60, R71). -/
theorem Updates.storeBytes {p : Nat} {l : List Byte} (hp : p + l.length ≤ Memory.size) :
    Updates bits s (u.storeBytes p l) :=
  h.trans
    { srBit := fun _ _ _ => rfl
      pc := rfl
      slot := rfl
      asleep := rfl
      form := fun hi => ⟨Memory.wf_writeBytes l hi.mem hp, addressesWf_addAddresses l.length hi.storedTo hp, hi.shared,
        hi.sr, hi.tra, hi.expevt, hi.intevt, hi.asleep⟩
      confined := fun _ => ⟨fun _ _ => rfl, fun _ _ => rfl, rfl⟩ }

/-! ### Registers that only privileged mode may write -/

section
variable (hp : u.privileged = true)
include hp

theorem Updates.setVbr (v : Word) : Updates bits s (u.setVbr v) :=
  h.trans ((Kept.setVbr u v).updates (by simp) (by simp) (.inl hp) rfl rfl rfl rfl)

theorem Updates.setSsr (v : Word) : Updates bits s (u.setSsr v) :=
  h.trans ((Kept.setSsr u v).updates (by simp) (by simp) (.inl hp) rfl rfl rfl rfl)

theorem Updates.setSpc (v : Word) : Updates bits s (u.setSpc v) :=
  h.trans ((Kept.setSpc u v).updates (by simp) (by simp) (.inl hp) rfl rfl rfl rfl)

theorem Updates.setBackReg (b : BankReg) (v : Word) : Updates bits s (u.setBackReg b v) :=
  h.trans ((Kept.setBackReg u b v).updates (by simp) (by simp) (.inl hp) (by simp) (by simp) (by simp) (by simp))

/-- A write of the whole SR clears its reserved bits (R34). -/
theorem Updates.setSr (hbits : srFields ⊆ bits) (v : Word) : Updates bits s (u.setSr v) :=
  h.trans
    { srBit := fun _ hk hb => absurd (hbits hk) hb
      pc := rfl
      slot := rfl
      asleep := rfl
      form := fun hi => ⟨hi.mem, hi.storedTo, hi.shared, and_mask_eq_zero (by decide) v, hi.tra, hi.expevt, hi.intevt,
        hi.asleep⟩
      confined := fun hu => absurd hu (by simp [hp]) }

/-- A store to an event register keeps the bits of its layout (R374). -/
theorem Updates.setEventReg (r : EventReg) (v : Word) : Updates bits s (u.setEventReg r v) :=
  h.trans
    { srBit := by simp
      pc := by simp
      slot := by simp
      asleep := by simp
      form := fun hi =>
        { mem := by simpa using hi.mem
          storedTo := by simpa using hi.storedTo
          shared := by simpa using hi.shared
          sr := by simpa using hi.sr
          tra := by
            rw [State.setEventReg_tra]
            split
            · exact and_mask_eq_zero (by decide) v
            · exact hi.tra
          expevt := by
            rw [State.setEventReg_expevt]
            split
            · exact and_mask_eq_zero (by decide) v
            · exact hi.expevt
          intevt := by
            rw [State.setEventReg_intevt]
            split
            · exact and_mask_eq_zero (by decide) v
            · exact hi.intevt
          asleep := by simpa using hi.asleep }
      confined := fun hu => absurd hu (by simp [hp]) }

end

end

end Sys2Proof.Machine
end

section
/-! PROOFS. How an access to memory ends and what a store updates (20_memory.md R63, R65, R72; logs 3 and 13). -/

namespace Sys2Proof.Machine

variable {s t u : State} {bits : List Nat}

/-- The ways an access to memory ends: a value, an address error, a byte that holds none, or P4, which only privileged mode
reaches. -/
inductive AccessEnds {α : Type} (s : State) : Access α → Prop where
  | ok (v : α) : AccessEnds s (.ok v)
  | addressError (k : AccessKind) (a : Word) : AccessEnds s (.raises (.addressError k a))
  | unwritten {a : Nat} (h : s.readByte a = none) : AccessEnds s (.fault (.unwrittenMemory a))
  | p4 {a : Word} (h : 0xE0000000 ≤ a.toNat) (hp : s.privileged = true) : AccessEnds s (.refused (.p4Access a))

theorem AccessEnds.bind {α β : Type} {r : Access α} {k : α → Access β} (hr : AccessEnds s r)
    (hk : ∀ v, r = .ok v → AccessEnds s (k v)) : AccessEnds s (r.bind k) := by
  cases hr with
  | ok v => exact hk v rfl
  | addressError k a => exact .addressError k a
  | unwritten h => exact .unwritten h
  | p4 h hp => exact .p4 h hp

theorem AccessEnds.map {α β : Type} {r : Access α} (hr : AccessEnds s r) (f : α → β) : AccessEnds s (r.map f) :=
  hr.bind fun v _ => .ok (f v)

/-- How an access ends depends on which bytes have a value, and on the mode. -/
theorem AccessEnds.congr {α : Type} {r : Access α} (hr : AccessEnds u r)
    (hb : ∀ a, u.readByte a = none → s.readByte a = none) (hp : u.privileged = s.privileged) : AccessEnds s r := by
  cases hr with
  | ok v => exact .ok v
  | addressError k a => exact .addressError k a
  | unwritten h => exact .unwritten (hb _ h)
  | p4 h hu => exact .p4 h (hp ▸ hu)

/-- In user mode an access to P4 raises an address error (R65). -/
theorem privileged_of_p4 {n : Nat} {a : Word} (hb : ¬ s.BadAddress n a) (h : 0xE0000000 ≤ a.toNat) :
    s.privileged = true := by
  by_contra hp
  exact hb (.inr ⟨by simpa using hp, by omega⟩)

theorem State.locate_ends (s : State) (k : AccessKind) (n : Nat) (a : Word) : AccessEnds s (s.locate k n a) := by
  rcases s.locate_cases k n a with ⟨-, hl⟩ | ⟨-, hl⟩ | ⟨-, r, -, hl⟩ | ⟨hb, hp, -, hl⟩
  · rw [hl]; exact .addressError k a
  · rw [hl]; exact .ok _
  · rw [hl]; exact .ok _
  · rw [hl]; exact .p4 hp (privileged_of_p4 hb hp)

theorem State.byteAt_ends (s : State) (a : Nat) : AccessEnds s (s.byteAt a) := by
  cases h : s.readByte a with
  | some b => rw [State.byteAt_some h]; exact .ok b
  | none => rw [State.byteAt_none h]; exact .unwritten h

/-- An access of one or two bytes finds no event register (R374). -/
theorem State.locate_event_size {k : AccessKind} {n : Nat} {a : Word} {r : EventReg} (h : s.locate k n a = .ok (.event r)) :
    n = 4 ∧ s.ReachesEvent a r := by
  rcases s.locate_cases k n a with ⟨-, hl⟩ | ⟨-, hl⟩ | ⟨hn, q, hq, hl⟩ | ⟨-, -, -, hl⟩ <;> rw [hl] at h <;> cases h
  exact ⟨hn, hq⟩

/-- An access that finds memory may be made there (R65). -/
theorem State.locate_memory_place {k : AccessKind} {n x : Nat} {a : Word} (h : s.locate k n a = .ok (.memory x)) :
    s.MayAccess n a ∧ x = place a := by
  rcases s.locate_cases k n a with ⟨-, hl⟩ | ⟨hm, hl⟩ | ⟨-, q, -, hl⟩ | ⟨-, -, -, hl⟩ <;> rw [hl] at h <;> cases h
  exact ⟨hm, rfl⟩

/-! ## Loads -/

theorem State.loadByte_ends (s : State) (k : AccessKind) (a : Word) : AccessEnds s (s.loadByte k a) :=
  (s.locate_ends k 1 a).bind fun p hp =>
    match p with
    | .memory x => s.byteAt_ends x
    | .event _ => absurd (State.locate_event_size hp).1 (by decide)

theorem State.loadWord_ends (s : State) (k : AccessKind) (a : Word) : AccessEnds s (s.loadWord k a) :=
  (s.locate_ends k 2 a).bind fun p hp =>
    match p with
    | .memory x => (s.byteAt_ends x).bind fun _ _ => (s.byteAt_ends (x + 1)).bind fun _ _ => .ok _
    | .event _ => absurd (State.locate_event_size hp).1 (by decide)

theorem State.loadLong_ends (s : State) (k : AccessKind) (a : Word) : AccessEnds s (s.loadLong k a) :=
  (s.locate_ends k 4 a).bind fun p _ =>
    match p with
    | .memory x =>
      (s.byteAt_ends x).bind fun _ _ => (s.byteAt_ends (x + 1)).bind fun _ _ => (s.byteAt_ends (x + 2)).bind fun _ _ =>
        (s.byteAt_ends (x + 3)).bind fun _ _ => .ok _
    | .event _ => .ok _

/-! ## Stores -/

/-- The ways a store ends: as an access does, and if it is made it is an update. -/
structure StoreEnds (s : State) (r : Access State) : Prop where
  ends : AccessEnds s r
  updates : ∀ t, r = .ok t → Updates [] s t

theorem StoreEnds.of_locate {k : AccessKind} {n : Nat} {a : Word} {f : Place → Access State}
    (h : ∀ p, s.locate k n a = .ok p → ∃ t, f p = .ok t ∧ Updates [] s t) : StoreEnds s ((s.locate k n a).bind f) where
  ends := (s.locate_ends k n a).bind fun p hp => by
    obtain ⟨t, hf, -⟩ := h p hp
    rw [hf]; exact .ok t
  updates t ht := by
    cases hl : s.locate k n a with
    | ok p =>
      obtain ⟨t', hf, hu⟩ := h p hl
      rw [hl] at ht
      obtain rfl : t' = t := by simpa [Access.bind, hf] using ht
      exact hu
    | raises e => rw [hl] at ht; cases ht
    | fault f => rw [hl] at ht; cases ht
    | refused x => rw [hl] at ht; cases ht

/-- A store of n bytes where an access of n bytes finds memory stays within it (R60, R63). -/
theorem Updates.storeBytes_of_locate {k : AccessKind} {n x : Nat} {a : Word} {l : List Byte}
    (h : s.locate k n a = .ok (.memory x)) (hn : n = 1 ∨ n = 2 ∨ n = 4) (hl : l.length = n) :
    Updates bits s (s.storeBytes x l) := by
  obtain ⟨hm, rfl⟩ := State.locate_memory_place h
  exact (Updates.refl s).storeBytes (hl ▸ place_add_le a n hn hm.aligned)

theorem State.storeByte_ends (s : State) (a : Word) (v : Byte) : StoreEnds s (s.storeByte a v) :=
  .of_locate fun p hp =>
    match p with
    | .memory _ => ⟨_, rfl, .storeBytes_of_locate hp (by simp) rfl⟩
    | .event _ => absurd (State.locate_event_size hp).1 (by decide)

theorem State.storeWord_ends (s : State) (a : Word) (v : Half) : StoreEnds s (s.storeWord a v) :=
  .of_locate fun p hp =>
    match p with
    | .memory _ => ⟨_, rfl, .storeBytes_of_locate hp (by simp) (by simp)⟩
    | .event _ => absurd (State.locate_event_size hp).1 (by decide)

theorem State.storeLong_ends (s : State) (a : Word) (v : Word) : StoreEnds s (s.storeLong a v) :=
  .of_locate fun p hp =>
    match p with
    | .memory _ => ⟨_, rfl, .storeBytes_of_locate hp (by simp) (by simp)⟩
    | .event r => ⟨_, rfl, (Updates.refl s).setEventReg (State.locate_event_size hp).2.1 r v⟩

end Sys2Proof.Machine
end

section
/-! PROOFS. How an instruction ends, said once for all of them (44_branch.md R260, R262, 45_system_control.md R280,
60_exceptions.md R370; logs 3, 8 to 11 and 13). -/

namespace Sys2Proof.Machine

variable {i : Instr} {s t u : State}

/-- The ways the instruction i ends at s: it completes or branches after updates at the SR bits that it writes, it sleeps,
it raises an exception that nothing but the increment of a `MAC` precedes (log 7), or it stops. -/
inductive Ends (i : Instr) (s : State) : Result → Prop where
  | done {u : State} (h : Updates i.srBits s u) : Ends i s u.done
  | jump (target : Word) (hs : s.slot = none) : Ends i s (s.jump target)
  | delayedBranch {u : State} (target : Word) (h : Updates i.srBits s u) (hs : s.slot = none)
      (hd : i.delayedBranch = true) : Ends i s (u.delayedBranch target)
  | sleep (hp : s.privileged = true) : Ends i s ({ s with asleep := true } : State).done
  | raise {u : State} (e : Exc) (h : Updates [] s u) (hv : u.vbr = s.vbr) (ht : ∀ imm, e = .trap imm → s.slot = none) :
      Ends i s (u.raise e)
  | unwritten {a : Nat} (h : s.readByte a = none) : Ends i s (.fault (.unwrittenMemory a))
  | p4 {a : Word} (h : 0xE0000000 ≤ a.toNat) (hp : s.privileged = true) : Ends i s (.refused (.p4Access a))
  | slotPcRelative (hs : s.slot ≠ none) : Ends i s (.refused (.slotPcRelative s.pc))
  | tlbWrite (hp : s.privileged = true) : Ends i s (.refused .tlbWrite)
  | sameRegister (n : Reg) (h : i ∈ [.div1 n n, .macL n n, .macW n n]) : Ends i s (.refused (.sameRegister n))

/-! ## The checks -/

/-- An exception other than a trap, with nothing before it. -/
theorem Ends.raise_now {e : Exc} (h : ∀ imm, e ≠ .trap imm) : Ends i s (s.raise e) :=
  .raise e (Updates.refl s) rfl fun imm he => absurd he (h imm)

theorem State.illegalExc_ne_trap (s : State) (imm : Byte) : s.illegalExc ≠ .trap imm := by
  unfold State.illegalExc; split <;> simp

theorem Ends.notInSlot {r : Result} (h : s.slot = none → Ends i s r) : Ends i s (s.notInSlot r) := by
  cases hs : s.slot with
  | none => rw [State.notInSlot_none hs]; exact h hs
  | some x => rw [State.notInSlot_some hs]; exact Ends.raise_now (by simp)

theorem Ends.pcRelative {r : Result} (h : Ends i s r) : Ends i s (s.pcRelative r) := by
  cases hs : s.slot with
  | none => rw [State.pcRelative_none hs]; exact h
  | some x => rw [State.pcRelative_some hs]; exact .slotPcRelative (by simp [hs])

theorem Ends.ifPrivileged {r : Result} (h : s.privileged = true → Ends i s r) : Ends i s (s.ifPrivileged r) := by
  cases hp : s.privileged with
  | true => rw [State.ifPrivileged_true hp]; exact h hp
  | false => rw [State.ifPrivileged_false hp]; exact Ends.raise_now s.illegalExc_ne_trap

theorem Ends.distinctRegs {m n : Reg} {r : Result} (hi : m = n → i ∈ [.div1 n n, .macL n n, .macW n n])
    (h : Ends i s r) : Ends i s (distinctRegs m n r) := by
  by_cases hmn : m = n
  · subst hmn; rw [distinctRegs_same]; exact .sameRegister m (hi rfl)
  · rw [distinctRegs_ne hmn]; exact h

/-! ## One access, then the rest -/

theorem Ends.run {α : Type} {r : Access α} {k : α → Result} (hr : AccessEnds s r)
    (hk : ∀ v, r = .ok v → Ends i s (k v)) : Ends i s (r.run s k) := by
  cases hr with
  | ok v => exact hk v rfl
  | addressError k a => exact Ends.raise_now (by simp)
  | unwritten h => exact .unwritten h
  | p4 h hp => exact .p4 h hp

theorem Ends.loadInto {r : Access Word} {n : Reg} (hr : AccessEnds s r) : Ends i s (s.loadInto r n) :=
  .run hr fun v _ => .done ((Updates.refl s).setReg n v)

theorem Ends.loadIntoInc {r : Access Word} {m n : Reg} {size : Word} (hr : AccessEnds s r) :
    Ends i s (s.loadIntoInc r m n size) :=
  .run hr fun v _ => .done (((Updates.refl s).setReg m _).setReg n v)

theorem Ends.storeDone {r : Access State} (hr : StoreEnds s r) : Ends i s (s.storeDone r) :=
  .run hr.ends fun t ht => .done ((hr.updates t ht).mono (List.nil_subset _))

theorem Ends.storeDec {r : Access State} {n : Reg} {ea : Word} (hr : StoreEnds s r) : Ends i s (s.storeDec r n ea) :=
  .run hr.ends fun t ht => .done (((hr.updates t ht).mono (List.nil_subset _)).setReg n ea)

theorem Ends.pushLong {n : Reg} {v : Word} : Ends i s (s.pushLong n v) := .storeDec (s.storeLong_ends _ v)

theorem Ends.popLong {m : Reg} {rest : State → Word → State}
    (h : ∀ u v, Updates i.srBits s u → u.privileged = s.privileged → Updates i.srBits s (rest u v)) :
    Ends i s (s.popLong m rest) :=
  .run (s.loadLong_ends .read _) fun v _ => .done (h _ v ((Updates.refl s).setReg m _) (by simp))

/-! ## Two accesses -/

/-- The store of a read-modify-write has the address of the read, so it ends as accesses of s do (R220 (b)). -/
theorem Ends.modifyByte {ea : Word} {f : Byte → Byte} {g : State → Byte → State}
    (h : ∀ u v, Updates i.srBits s u → Updates i.srBits s (g u v)) : Ends i s (s.modifyByte ea f g) :=
  .run (s.loadByte_ends .read ea) fun v _ =>
    have hstore := s.storeByte_ends ea (f v)
    .run hstore.ends fun t ht => .done (h t v ((hstore.updates t ht).mono (List.nil_subset _)))

/-- Between the two reads of `MAC` no byte gets or loses its value (R69). -/
theorem State.readByte_none_nextAnswers (n : Reg) (v : Word) (a : Nat) :
    (s.nextAnswers.setReg n v).readByte a = none ↔ s.readByte a = none := by
  simp [State.readByte_eq_none]

theorem Ends.macReads {w : Nat} {load : State → Word → Access (BitVec w)} {size : Word} {m n : Reg}
    {rest : State → BitVec w → BitVec w → State} (hload : ∀ u a, AccessEnds u (load u a))
    (hrest : ∀ u a b, Updates i.srBits s u → Updates i.srBits s (rest u a b)) :
    Ends i s (s.macReads load size m n rest) := by
  refine .run (hload s _) fun a ha => ?_
  have hincr {bits : List Nat} : Updates bits s (s.nextAnswers.setReg n (s.reg n + size)) :=
    (Updates.refl s).nextAnswers.setReg n _
  have hsecond : AccessEnds s (load (s.nextAnswers.setReg n (s.reg n + size))
      ((s.nextAnswers.setReg n (s.reg n + size)).reg m)) :=
    (hload _ _).congr (fun x => (State.readByte_none_nextAnswers n _ x).1) (by simp)
  simp only
  generalize hr : load (s.nextAnswers.setReg n (s.reg n + size))
    ((s.nextAnswers.setReg n (s.reg n + size)).reg m) = r at hsecond
  cases hsecond with
  | ok b => exact .done (hrest _ a b (hincr.setReg m _))
  | addressError k x =>
    refine .raise _ ?_ ?_ (by simp)
    · split
      · exact hincr.withFreeCount _
      · exact (Updates.refl s).nextAnswers.withFreeCount _
    · split <;> simp
  | unwritten h => exact .unwritten h
  | p4 h hp => exact .p4 h hp

/-! ## Every instruction -/

/-- Every instruction ends in one of the ways of `Ends`. -/
theorem exec_ends (i : Instr) (s : State) : Ends i s (exec i s) :=
  have h {bits : List Nat} : Updates bits s s := Updates.refl s
  match i with
  -- a result in a general register
  | .movImm _ _ | .mov _ _ | .movt _ | .swapB _ _ | .swapW _ _ | .xtrct _ _ | .add _ _ | .addImm _ _ | .neg _ _
  | .sub _ _ | .extsB _ _ | .extsW _ _ | .extuB _ _ | .extuW _ _ | .and _ _ | .andImm _ | .not _ _ | .or _ _ | .orImm _
  | .xor _ _ | .xorImm _ | .shad _ _ | .shll2 _ | .shll8 _ | .shll16 _ | .shlr2 _ | .shlr8 _ | .shlr16 _ | .shld _ _
  | .stcGbr _ | .stsMach _ | .stsMacl _ | .stsPr _ => .done (h.setReg _ _)
  | .stcSr _ | .stcVbr _ | .stcSsr _ | .stcSpc _ | .stcBank _ _ => .ifPrivileged fun _ => .done (h.setReg _ _)
  | .mova _ => .pcRelative (.done (h.setReg _ _))
  -- a result and T
  | .addc _ _ | .addv _ _ | .negc _ _ | .subc _ _ | .subv _ _ | .dt _ | .rotl _ | .rotr _ | .rotcl _ | .rotcr _ | .shal _
  | .shar _ | .shll _ | .shlr _ => .done ((h.setReg _ _).setT _ (.head _))
  -- flags alone
  | .cmpEqImm _ | .cmpEq _ _ | .cmpHs _ _ | .cmpGe _ _ | .cmpHi _ _ | .cmpGt _ _ | .cmpPz _ | .cmpPl _ | .cmpStr _ _
  | .tst _ _ | .tstImm _ | .clrt | .sett => .done (h.setT _ (.head _))
  | .clrs | .sets => .done (h.setS _ (.head _))
  -- division
  | .div0s _ _ => .done (((h.setQ _ (by simp [Instr.srBits])).setM _ (by simp [Instr.srBits])).setT _ (.head _))
  | .div0u => .done (((h.setM _ (by simp [Instr.srBits])).setQ _ (by simp [Instr.srBits])).setT _ (.head _))
  | .div1 _ _ => .distinctRegs (by simp) (.done (((h.setReg _ _).setQ _ (by simp [Instr.srBits])).setT _ (.head _)))
  -- MAC
  | .dmulsL _ _ | .dmuluL _ _ | .clrmac => .done (h.setMac _)
  | .mulL _ _ | .mulsW _ _ | .muluW _ _ | .ldsMacl _ => .done (h.setMacl _)
  | .macL _ _ => .distinctRegs (by simp) (.macReads (fun u a => u.loadLong_ends .read a) fun _ _ _ hu => hu.setMac _)
  | .macW _ _ => .distinctRegs (by simp) (.macReads (fun u a => u.loadWord_ends .read a) fun _ _ _ hu => hu.setMac _)
  -- loads
  | .movWPc _ _ => .pcRelative (.loadInto ((s.loadWord_ends .read _).map _))
  | .movLPc _ _ => .pcRelative (.loadInto (s.loadLong_ends .read _))
  | .movBLoad _ _ | .movBLoadDisp _ _ | .movBLoadIdx _ _ | .movBLoadGbr _ => .loadInto ((s.loadByte_ends .read _).map _)
  | .movWLoad _ _ | .movWLoadDisp _ _ | .movWLoadIdx _ _ | .movWLoadGbr _ => .loadInto ((s.loadWord_ends .read _).map _)
  | .movLLoad _ _ | .movLLoadDisp _ _ _ | .movLLoadIdx _ _ | .movLLoadGbr _ => .loadInto (s.loadLong_ends .read _)
  | .movBLoadInc _ _ => .loadIntoInc ((s.loadByte_ends .read _).map _)
  | .movWLoadInc _ _ => .loadIntoInc ((s.loadWord_ends .read _).map _)
  | .movLLoadInc _ _ => .loadIntoInc (s.loadLong_ends .read _)
  | .ldcLGbr _ => .popLong fun _ v hu _ => hu.setGbr v
  | .ldsLMach _ => .popLong fun _ v hu _ => hu.setMach v
  | .ldsLMacl _ => .popLong fun _ v hu _ => hu.setMacl v
  | .ldsLPr _ => .popLong fun _ v hu _ => hu.setPr v
  -- stores
  | .movBStore _ _ | .movBStoreDisp _ _ | .movBStoreIdx _ _ | .movBStoreGbr _ => .storeDone (s.storeByte_ends _ _)
  | .movWStore _ _ | .movWStoreDisp _ _ | .movWStoreIdx _ _ | .movWStoreGbr _ => .storeDone (s.storeWord_ends _ _)
  | .movLStore _ _ | .movLStoreDisp _ _ _ | .movLStoreIdx _ _ | .movLStoreGbr _ => .storeDone (s.storeLong_ends _ _)
  | .movBStoreDec _ _ => .storeDec (s.storeByte_ends _ _)
  | .movWStoreDec _ _ => .storeDec (s.storeWord_ends _ _)
  | .movLStoreDec _ _ => .storeDec (s.storeLong_ends _ _)
  | .stcLGbr _ | .stsLMach _ | .stsLMacl _ | .stsLPr _ => .pushLong
  | .stcLSr _ | .stcLVbr _ | .stcLSsr _ | .stcLSpc _ | .stcLBank _ _ => .ifPrivileged fun _ => .pushLong
  -- a byte read and stored
  | .andB _ | .orB _ | .xorB _ => .modifyByte fun _ _ hu => hu
  | .tasB _ => .modifyByte fun _ _ hu => hu.setT _ (.head _)
  | .tstB _ => .run (s.loadByte_ends .read _) fun _ _ => .done (h.setT _ (.head _))
  -- branches
  | .bf _ | .bt _ => .notInSlot fun hs => by split <;> exact .jump _ hs
  | .bfS _ | .btS _ | .bra _ | .braf _ | .jmp _ | .rts => .notInSlot fun hs => .delayedBranch _ h hs rfl
  | .bsr _ | .bsrf _ | .jsr _ => .notInSlot fun hs => .delayedBranch _ (h.setPr _) hs rfl
  | .rte => .notInSlot fun hs => .ifPrivileged fun hp => .delayedBranch _ (h.setSr hp (List.Subset.refl _) _) hs rfl
  | .trapa _ => .notInSlot fun hs => .raise _ h rfl fun _ _ => hs
  -- control and system registers
  | .ldcGbr _ => .done (h.setGbr _)
  | .ldsMach _ => .done (h.setMach _)
  | .ldsPr _ => .done (h.setPr _)
  | .ldcSr _ => .notInSlot fun _ => .ifPrivileged fun hp => .done (h.setSr hp (List.Subset.refl _) _)
  | .ldcVbr _ => .ifPrivileged fun hp => .done (h.setVbr hp _)
  | .ldcSsr _ => .ifPrivileged fun hp => .done (h.setSsr hp _)
  | .ldcSpc _ => .ifPrivileged fun hp => .done (h.setSpc hp _)
  | .ldcBank _ _ => .ifPrivileged fun hp => .done (h.setBackReg hp _ _)
  | .ldcLSr _ => .notInSlot fun _ => .ifPrivileged fun hp =>
      .popLong fun _ v hu hm => hu.setSr (hm.trans hp) (List.Subset.refl _) v
  | .ldcLVbr _ => .ifPrivileged fun hp => .popLong fun _ v hu hm => hu.setVbr (hm.trans hp) v
  | .ldcLSsr _ => .ifPrivileged fun hp => .popLong fun _ v hu hm => hu.setSsr (hm.trans hp) v
  | .ldcLSpc _ => .ifPrivileged fun hp => .popLong fun _ v hu hm => hu.setSpc (hm.trans hp) v
  | .ldcLBank _ b => .ifPrivileged fun hp => .popLong fun _ v hu hm => hu.setBackReg (hm.trans hp) b v
  -- the rest
  | .nop | .pref _ => .done h
  | .sleep => .ifPrivileged fun hp => .sleep hp
  | .ldtlb => .ifPrivileged fun hp => .tlbWrite hp

end Sys2Proof.Machine
end

section
/-! PROOFS. The statements over all instructions and all steps: the form of the state, the writers of SR, what user mode may
change, and why a step stops (10_state.md R26 to R34, R45, R46, 60_exceptions.md R370; logs 3 and 8 to 13). -/

namespace Sys2Proof.Machine

variable {i : Instr} {s t u : State} {bits : List Nat}

/-! ## Completing and branching -/

theorem State.Inv.advance (h : s.Inv) : s.advance.Inv :=
  ⟨by simpa using h.mem, by simpa using h.storedTo, by simpa using h.shared, by simpa using h.sr, by simpa using h.tra,
    by simpa using h.expevt, by simpa using h.intevt, by simp⟩

/-- `SLEEP` completes a delayed branch first (R260, R312). -/
theorem State.Inv.fallAsleep (h : s.Inv) : ({ s with asleep := true } : State).advance.Inv :=
  ⟨by simpa using h.mem, by simpa using h.storedTo, by simpa using h.shared, by simpa using h.sr, by simpa using h.tra,
    by simpa using h.expevt, by simpa using h.intevt, by simp⟩

/-- A move of the pc, and of the pending branch while awake, keeps the form. -/
theorem State.Inv.withPc (h : s.Inv) (pc : Word) {slot : Option Word} (ha : s.asleep = true → slot = none) :
    ({ s with pc := pc, slot := slot } : State).Inv :=
  ⟨h.mem, h.storedTo, h.shared, h.sr, h.tra, h.expevt, h.intevt, ha⟩

/-- The ways in which an instruction answers a next state. -/
theorem exec_next_cases (he : exec i s = .next t) :
    (∃ u, Updates i.srBits s u ∧ t = u.advance) ∨
    (s.slot = none ∧ ∃ target, t = { s with pc := target }) ∨
    (s.slot = none ∧ i.delayedBranch = true ∧
      ∃ u target, Updates i.srBits s u ∧ t = { u with pc := u.pc + 2, slot := some target }) ∨
    (s.privileged = true ∧ t = ({ s with asleep := true } : State).advance) ∨
    (∃ u e, Updates [] s u ∧ u.vbr = s.vbr ∧ (∀ imm, e = .trap imm → s.slot = none) ∧ t = u.takeExc e) := by
  have hends := exec_ends i s
  rw [he] at hends
  cases hends with
  | done h => exact .inl ⟨_, h, rfl⟩
  | jump target hs => exact .inr (.inl ⟨hs, target, rfl⟩)
  | delayedBranch target h hs hd => exact .inr (.inr (.inl ⟨hs, hd, _, target, h, rfl⟩))
  | sleep hp => exact .inr (.inr (.inr (.inl ⟨hp, rfl⟩)))
  | raise e h hv ht => exact .inr (.inr (.inr (.inr ⟨_, e, h, hv, ht, rfl⟩)))

/-- Every instruction of an awake machine keeps the form. -/
theorem exec_keeps_form (hi : s.Inv) (ha : s.asleep = false) (he : exec i s = .next t) : t.Inv := by
  rcases exec_next_cases he with ⟨u, h, rfl⟩ | ⟨-, target, rfl⟩ | ⟨-, -, u, target, h, rfl⟩ | ⟨-, rfl⟩ |
    ⟨u, e, h, -, -, rfl⟩
  · exact (h.form hi).advance
  · exact hi.withPc target hi.asleep
  · exact (h.form hi).withPc _ (by simp [h.asleep, ha])
  · exact hi.fallAsleep
  · exact (h.form hi).takeExc e

/-! ## A step -/

/-- What a step is: what comes before the instruction, or the fetch that stops, or an exception of the fetch or of an
undefined word, or the instruction at pc. -/
theorem step_cases (s : State) :
    (∃ t, s.beforeInstruction = some t ∧ step s = .next t) ∨
    (s.asleep = false ∧
      ((∃ w i, s.Fetches w ∧ decode w = .ok i ∧ step s = exec i s) ∨
      (∃ e, step s = .next (s.takeExc e)) ∨
      (∃ f, s.fetch = .fault f ∧ step s = .fault f) ∨
      (∃ x, s.fetch = .refused x ∧ step s = .refused x))) := by
  cases hb : s.beforeInstruction with
  | some t => exact .inl ⟨t, rfl, by simp [step, hb]⟩
  | none =>
    refine .inr ⟨(State.before_none hb).2, ?_⟩
    cases hf : s.fetch with
    | ok w =>
      cases hd : decode w with
      | ok i => exact .inl ⟨w, i, State.fetches_of_fetch hb hf, hd, by simp [step, hb, hf, hd]⟩
      | error e => exact .inr (.inl ⟨s.illegalExc, by simp [step, hb, hf, hd, State.undefinedWord, State.raise]⟩)
    | raises e => exact .inr (.inl ⟨e, by simp [step, hb, hf]⟩)
    | fault f => exact .inr (.inr (.inl ⟨f, rfl, by simp [step, hb, hf]⟩))
    | refused x => exact .inr (.inr (.inr ⟨x, rfl, by simp [step, hb, hf]⟩))

/-- Settles O24: what comes before an instruction, an exception and every instruction keep the form. -/
theorem stepKeepsForm : Obligations.StepKeepsForm := by
  intro s t hi ht
  rcases step_cases s with ⟨u, hb, hstep⟩ | ⟨ha, ⟨w, i, -, -, hstep⟩ | ⟨e, hstep⟩ | ⟨f, -, hstep⟩ | ⟨x, -, hstep⟩⟩ <;>
    rw [hstep] at ht
  · cases ht; exact hi.before hb
  · exact exec_keeps_form hi ha ht
  · cases ht; exact hi.takeExc e
  · cases ht
  · cases ht

/-! ## The writers of SR, and user mode -/

theorem Confined.advance (h : Confined s u) : Confined s u.advance :=
  ⟨fun k hk => by simpa using h.srBit k hk, fun p hp => ((Kept.advance u).part p (by simp)).trans (h.part p hp),
    by simpa using h.bank1⟩

/-- An instruction that answers a next state has updated SR only where it is listed, and in user mode nothing privileged, or it
has taken an exception. -/
theorem exec_leaves (he : exec i s = .next t) :
    ((∀ k ∈ srFields, k ∉ i.srBits → t.sr.getLsbD k = s.sr.getLsbD k) ∧ (s.privileged = false → Confined s t)) ∨
    (∃ u e, Updates [] s u ∧ u.vbr = s.vbr ∧ t = u.takeExc e) := by
  rcases exec_next_cases he with ⟨u, h, rfl⟩ | ⟨-, target, rfl⟩ | ⟨-, -, u, target, h, rfl⟩ | ⟨hp, rfl⟩ |
    ⟨u, e, h, hv, -, rfl⟩
  · exact .inl ⟨fun k hk hb => by simpa using h.srBit k hk hb, fun hu => (h.confined hu).advance⟩
  · exact .inl ⟨fun _ _ _ => rfl, fun _ => ⟨fun _ _ => rfl, fun _ _ => rfl, rfl⟩⟩
  · exact .inl ⟨h.srBit, fun hu => ⟨(h.confined hu).srBit, (h.confined hu).part, (h.confined hu).bank1⟩⟩
  · exact .inl ⟨fun _ _ _ => by simp, fun hu => absurd hp (by simp [hu])⟩
  · exact .inr ⟨u, e, h, hv, rfl⟩

theorem Updates.blocked (h : Updates [] s u) : u.blocked = s.blocked := h.srBit 28 (by decide) (by simp)

theorem takeExc_of_not_blocked (h : s.blocked = false) (e : Exc) : s.takeExc e = s.enterExc e := by
  simp [State.takeExc, h]

/-- SR after entry: MD, RB and BL are set, every other field is as it was (R370). -/
theorem getLsbD_enter_sr (s : State) (saved offset : Word) {k : Nat} (hk : k ∈ srFields) :
    (s.enter saved offset).sr.getLsbD k = (s.sr.getLsbD k || decide (28 ≤ k)) := by
  have hmask : srMask.getLsbD k = true ∧ srEntryBits.getLsbD k = decide (28 ≤ k) := by revert k; decide
  rw [State.enter_sr, State.srWord, BitVec.getLsbD_or, BitVec.getLsbD_and, hmask.1, hmask.2, Bool.and_true]

theorem getLsbD_enterExc_sr (s : State) (e : Exc) {k : Nat} (hk : k ∈ srFields) :
    (s.enterExc e).sr.getLsbD k = (s.sr.getLsbD k || decide (28 ≤ k)) := by
  rw [State.enterExc, getLsbD_enter_sr _ _ _ hk, State.recordExc_sr]

/-- Exception entry sets MD, RB and BL (R370). -/
theorem enterExc_mode (s : State) (e : Exc) :
    (s.enterExc e).privileged = true ∧ (s.enterExc e).rb = true ∧ (s.enterExc e).blocked = true := by
  refine ⟨?_, ?_, ?_⟩ <;>
    simp only [State.privileged, State.rb, State.blocked] <;> rw [getLsbD_enterExc_sr s e (by decide)] <;> simp

/-- Settles O26: an instruction that completes has updated SR only where it is listed, and one that raises has entered its
exception. -/
theorem srWriters : Obligations.SrWriters := by
  intro i s t hb he k hk hnot
  rcases exec_leaves he with ⟨hsr, -⟩ | ⟨u, e, h, hv, rfl⟩
  · exact .inl (hsr k hk hnot)
  · rw [takeExc_of_not_blocked (h.blocked.trans hb)]
    by_cases h28 : 28 ≤ k
    · obtain ⟨hmd, hrb, hbl⟩ := enterExc_mode u e
      exact .inr ⟨h28, by rw [State.enterExc_pc, hv], hmd, hrb, hbl⟩
    · left
      rw [getLsbD_enterExc_sr u e hk, h.srBit k hk (by simp)]
      simp [h28]

/-- The mask level is bits 7 to 4 of SR (R30). -/
theorem maskLevel_congr (h : ∀ k ∈ [4, 5, 6, 7], t.sr.getLsbD k = s.sr.getLsbD k) : t.maskLevel = s.maskLevel := by
  unfold State.maskLevel
  congr 1
  apply BitVec.eq_of_getLsbD_eq
  intro j hj
  simp only [BitVec.getLsbD_extractLsb', hj, decide_true, Bool.true_and]
  exact h (4 + j) (by interval_cases j <;> decide)

/-- Settles O27: an instruction that completes in user mode is confined, and one that raises enters its exception from a state
that is. -/
theorem userModeConfined : Obligations.UserModeConfined := by
  intro i s t hp hb he
  rcases exec_leaves he with ⟨-, hconf⟩ | ⟨u, e, h, -, rfl⟩
  · obtain ⟨hsr, hpart, hbank⟩ := hconf hp
    have hlevel := maskLevel_congr fun k hk => hsr k (by revert k; decide)
    exact ⟨hpart .vbr (by decide), hpart .intevt (by decide), hbank, hlevel,
      .inl ⟨(hsr 30 (by decide)).trans hp, hsr 29 (by decide), (hsr 28 (by decide)).trans hb, hpart .ssr (by decide),
        hpart .spc (by decide), hpart .tra (by decide), hpart .expevt (by decide)⟩⟩
  · obtain ⟨hsr, hpart, hbank⟩ := h.confined hp
    have hvbr : u.vbr = s.vbr := hpart .vbr (by decide)
    have hintevt : u.intevt = s.intevt := hpart .intevt (by decide)
    rw [takeExc_of_not_blocked (h.blocked.trans hb)]
    obtain ⟨hmd, hrb, hbl⟩ := enterExc_mode u e
    have hlevel : (u.enterExc e).maskLevel = s.maskLevel := maskLevel_congr fun k hk => by
      rw [getLsbD_enterExc_sr u e (by revert k; decide), hsr k (by revert k; decide)]
      revert k; simp
    exact ⟨by simpa using hvbr, by simpa using hintevt, by simpa using hbank, hlevel,
      .inr ⟨hmd, hrb, hbl, by simp [hvbr], by simp⟩⟩

end Sys2Proof.Machine
end

section
/-! PROOFS. Why a step stops, and what a fetch answers (20_memory.md R62, R71, R72, 60_exceptions.md R361; logs 3 and 8 to
13). -/

namespace Sys2Proof.Machine

variable {i : Instr} {s t u : State}

/-! ## Fetch -/

theorem State.fetch_bad (h : s.BadAddress 2 s.pc) : s.fetch = .raises (.addressError .fetch s.pc) := by
  simp [State.fetch, State.locate_bad h, Access.bind]

theorem State.fetch_p4 (h : ¬ s.BadAddress 2 s.pc) (hp : 0xE0000000 ≤ s.pc.toNat) :
    s.fetch = .refused (.p4Access s.pc) := by
  simp [State.fetch, State.locate_p4 h hp (by simp), Access.bind]

theorem mem_span_two {p a : Nat} : a ∈ span p 2 ↔ a = p ∨ a = p + 1 := by rw [mem_span]; omega

theorem State.isText_eq_false (s : State) (a : Nat) : s.isText a = false ↔ a ∈ s.storedTo ∨ a ∈ s.shared := by
  rw [← Bool.not_eq_true, State.isText_iff]; tauto

/-- A fetch of text is a load of the word at pc (R62). -/
theorem State.fetch_text (h : s.MayAccess 2 s.pc) (ht : ∀ a ∈ span (place s.pc) 2, s.isText a = true) :
    s.fetch = s.loadWord .fetch s.pc := by
  simp [State.fetch, State.locate_memory h, Access.bind, ht _ (mem_span_two.2 (.inl rfl)),
    ht _ (mem_span_two.2 (.inr rfl))]

/-- A fetch of a byte that is no text is refused at such a byte (R71). -/
theorem State.fetch_not_text (h : s.MayAccess 2 s.pc) (ht : ∃ a ∈ span (place s.pc) 2, s.isText a = false) :
    ∃ a ∈ span (place s.pc) 2, s.isText a = false ∧ s.fetch = .refused (.storedText a) := by
  simp only [State.fetch, State.locate_memory h, Access.bind]
  cases h0 : s.isText (place s.pc) with
  | false => exact ⟨_, mem_span_two.2 (.inl rfl), h0, rfl⟩
  | true =>
    cases h1 : s.isText (place s.pc + 1) with
    | false => exact ⟨_, mem_span_two.2 (.inr rfl), h1, rfl⟩
    | true =>
      obtain ⟨a, ha, hf⟩ := ht
      rcases mem_span_two.1 ha with rfl | rfl <;> simp_all

/-- A fetch ends as an access does, or where no text stands. -/
theorem State.fetch_ends (s : State) :
    AccessEnds s s.fetch ∨ ∃ a, (a ∈ s.storedTo ∨ a ∈ s.shared) ∧ s.fetch = .refused (.storedText a) := by
  by_cases hb : s.BadAddress 2 s.pc
  · rw [State.fetch_bad hb]; exact .inl (.addressError _ _)
  by_cases hp : 0xE0000000 ≤ s.pc.toNat
  · rw [State.fetch_p4 hb hp]; exact .inl (.p4 hp (privileged_of_p4 hb hp))
  have hm : s.MayAccess 2 s.pc := ⟨hb, by omega⟩
  by_cases ht : ∃ a ∈ span (place s.pc) 2, s.isText a = false
  · obtain ⟨a, -, hf, hfetch⟩ := State.fetch_not_text hm ht
    exact .inr ⟨a, (s.isText_eq_false a).1 hf, hfetch⟩
  · rw [State.fetch_text hm fun a ha => by simpa using fun hf => ht ⟨a, ha, hf⟩]
    exact .inl (s.loadWord_ends _ _)

/-- Settles O8: nothing comes before the fetch, so the step ends as the fetch does. -/
theorem fetchStops : Obligations.FetchStops := by
  intro s hu
  have hstep {r : Access Half} (hf : s.fetch = r) (hr : ∀ w, r ≠ .ok w) : step s = r.run s fun _ => s.undefinedWord := by
    cases r with
    | ok w => exact absurd rfl (hr w)
    | raises e => simp [step, hu.before, hf]
    | fault f => simp [step, hu.before, hf]
    | refused x => simp [step, hu.before, hf]
  refine ⟨fun hb => ?bad, fun hb hp => ?p4, fun hm ht => ?text, fun hm ht hr => ?unwritten⟩
  case bad => exact hstep (State.fetch_bad hb) (by simp)
  case p4 => exact hstep (State.fetch_p4 hb hp) (by simp)
  case text =>
    simp only [← State.isText_eq_false] at ht ⊢
    obtain ⟨a, ha, hf, hfetch⟩ := State.fetch_not_text hm ht
    exact ⟨a, ha, hf, hstep hfetch (by simp)⟩
  case unwritten =>
    have hown : ∀ a ∈ span (place s.pc) 2, s.readByte a = s.mem.read a := fun a ha => State.readByte_own (ht a ha).2
    obtain ⟨x, hx, hnone⟩ := hr
    obtain ⟨a, ha, hn, hload⟩ := State.loadWord_unwritten hm ⟨x, hx, (hown x hx).trans hnone⟩ .fetch
    rw [← State.fetch_text hm fun b hb => (s.isText_iff b).2 (ht b hb)] at hload
    exact ⟨a, ha, (hown a ha).symm.trans hn, hstep hload (by simp)⟩

/-! ## Every stop -/

/-- The faults of a fetch. -/
theorem State.fetch_fault {f : Fault} (hf : s.fetch = .fault f) : ∃ a, f = .unwrittenMemory a ∧ s.readByte a = none := by
  rcases s.fetch_ends with hends | ⟨a, -, ha⟩
  · rw [hf] at hends
    cases hends with
    | unwritten h => exact ⟨_, rfl, h⟩
  · rw [hf] at ha; cases ha

/-- The refusals of a fetch. -/
theorem State.fetch_refused {x : Refusal} (hx : s.fetch = .refused x) :
    (∃ a, x = .p4Access a ∧ 0xE0000000 ≤ a.toNat ∧ s.privileged = true) ∨
    (∃ a, x = .storedText a ∧ (a ∈ s.storedTo ∨ a ∈ s.shared)) := by
  rcases s.fetch_ends with hends | ⟨a, hs, ha⟩
  · rw [hx] at hends
    cases hends with
    | p4 h hp => exact .inl ⟨_, rfl, h, hp⟩
  · rw [hx] at ha
    cases ha
    exact .inr ⟨a, rfl, hs⟩

/-- The faults of an instruction. -/
theorem exec_fault {f : Fault} (hf : exec i s = .fault f) : ∃ a, f = .unwrittenMemory a ∧ s.readByte a = none := by
  have hends := exec_ends i s
  rw [hf] at hends
  cases hends with
  | unwritten h => exact ⟨_, rfl, h⟩

/-- The refusals of an instruction. -/
theorem exec_refused {x : Refusal} (hx : exec i s = .refused x) :
    (∃ a, x = .p4Access a ∧ 0xE0000000 ≤ a.toNat ∧ s.privileged = true) ∨
    (x = .slotPcRelative s.pc ∧ s.slot ≠ none) ∨ (x = .tlbWrite ∧ s.privileged = true) ∨
    (∃ n, x = .sameRegister n ∧ i ∈ [.div1 n n, .macL n n, .macW n n]) := by
  have hends := exec_ends i s
  rw [hx] at hends
  cases hends with
  | p4 h hp => exact .inl ⟨_, rfl, h, hp⟩
  | slotPcRelative hs => exact .inr (.inl ⟨rfl, hs⟩)
  | tlbWrite hp => exact .inr (.inr (.inl ⟨rfl, hp⟩))
  | sameRegister n h => exact .inr (.inr (.inr ⟨n, rfl, h⟩))

/-- Settles O9: a step stops where its fetch or its instruction does. -/
theorem stepStopsOnlySo : Obligations.StepStopsOnlySo := by
  intro s
  rcases step_cases s with ⟨t, -, hstep⟩ | ⟨-, ⟨w, i, hw, hd, hstep⟩ | ⟨e, hstep⟩ | ⟨f, hf, hstep⟩ | ⟨x, hx, hstep⟩⟩ <;>
    rw [hstep]
  · exact ⟨by simp, by simp⟩
  · refine ⟨fun f hf => ?_, fun x hx => ?_⟩
    · simpa only [State.readByte_eq_none] using exec_fault hf
    · rcases exec_refused hx with h | h | h | ⟨n, rfl, hi⟩
      · exact .inl h
      · exact .inr (.inr (.inl h))
      · exact .inr (.inr (.inr (.inl h)))
      · exact .inr (.inr (.inr (.inr ⟨n, w, rfl, hw, by simpa [hd] using hi⟩)))
  · exact ⟨by simp, by simp⟩
  · refine ⟨?_, by simp⟩
    rintro _ ⟨⟩
    simpa only [State.readByte_eq_none] using State.fetch_fault hf
  · refine ⟨by simp, ?_⟩
    rintro _ ⟨⟩
    rcases State.fetch_refused hx with h | h
    · exact .inl h
    · exact .inr (.inl h)

end Sys2Proof.Machine
end

section
/-! PROOFS. Reset operation for a blocked exception, and the acceptance of interrupts (60_exceptions.md R370, R372, R380 to
R382, 70_reset_and_hazards.md R410; logs 16 and 18). -/

namespace Sys2Proof.Machine

variable {s : State}

/-! ## A blocked exception -/

/-- SR after reset operation, bit by bit: T, S, M and Q are unspecified (R44). -/
theorem getLsbD_resetWith_sr (s : State) (code : Word) {k : Nat} (hk : k ∈ systemBits) :
    (s.resetWith code).sr.getLsbD k = true := by
  have hbits : (0x700000F0 : Word).getLsbD k = true := by revert k; decide
  rw [State.resetWith_sr, BitVec.getLsbD_or, hbits, Bool.true_or]

/-- What reset operation fixes (R410). -/
theorem resetDone_resetWith (s : State) (code : Word) : ResetDone s (s.resetWith code) code where
  pc := rfl
  privileged := getLsbD_resetWith_sr s code (by decide)
  rb := getLsbD_resetWith_sr s code (by decide)
  blocked := getLsbD_resetWith_sr s code (by decide)
  maskLevel := maskLevel_congr (s := State.reset) fun k hk => by
    rw [getLsbD_resetWith_sr s code (by revert k; decide)]
    revert k; decide
  reserved := or_reserved_eq_zero (by decide) (and_mask_eq_zero (by decide) _)
  vbr := rfl
  expevt := rfl
  slot := rfl
  asleep := rfl
  spc := rfl
  ssr := rfl

/-- Settles O13: with BL = 1 taking an exception is reset operation with its code. -/
theorem blockedExceptionResets : Obligations.BlockedExceptionResets := by
  intro s hb
  have hreset (e : Exc) : ResetDone s (s.takeExc e) e.code := by
    rw [show s.takeExc e = s.resetWith e.code by simp [State.takeExc, hb]]
    exact resetDone_resetWith s e.code
  exact ⟨fun a => hreset (.addressError .fetch a), fun a => hreset (.addressError .read a),
    fun a => hreset (.addressError .write a), fun imm => hreset (.trap imm), hreset .reservedInstruction,
    hreset .illegalSlot⟩

/-! ## Interrupts -/

/-- Outside a slot and with no reset request, an interrupt that is accepted is the step (R380, R382). -/
theorem step_of_accepted {t : State} (hr : s.resetPin = none) (hs : s.slot = none) (ha : s.acceptInterrupt = some t) :
    step s = .next t := by
  simp [step, State.beforeInstruction, hr, State.inSlot, hs, ha]

/-- SR after the entry of an interrupt: MD, RB and BL are set, every other field is as it was (R370). -/
theorem getLsbD_enterInterrupt_sr (s : State) (code : Word) {k : Nat} (hk : k ∈ srFields) :
    (s.enterInterrupt code).sr.getLsbD k = (s.sr.getLsbD k || decide (28 ≤ k)) := getLsbD_enter_sr _ _ _ hk

/-- Settles O16: NMI first, then the level, and what their entry leaves. -/
theorem interruptAccepted : Obligations.InterruptAccepted := by
  intro s hr hs hb
  refine ⟨fun hn => ?nmi, fun hn hl => ?level, fun code => ?entry⟩
  case nmi => exact step_of_accepted hr hs (by simp [State.acceptInterrupt, hb, hn])
  case level => exact step_of_accepted hr hs (by simp [State.acceptInterrupt, hb, hn, hl, levelCode])
  case entry =>
    have hblocked : (s.enterInterrupt code).blocked = true := by
      rw [State.blocked, getLsbD_enterInterrupt_sr s code (by decide)]; simp
    have hlevel : (s.enterInterrupt code).maskLevel = s.maskLevel := maskLevel_congr fun k hk => by
      rw [getLsbD_enterInterrupt_sr s code (by revert k; decide)]
      revert k; simp
    exact ⟨by simp, by simp, by simp, by simp, hblocked, hlevel⟩

end Sys2Proof.Machine
end

section
/-! PROOFS. Where an instruction stops at its first access to memory (20_memory.md R45, R72; logs 3 and 13). -/

namespace Sys2Proof.Machine

variable {i : Instr} {s : State} {r : Result}

/-! ## What follows an access -/

/-- The result r is that of an access a and what follows it. -/
def Follows {α : Type} (s : State) (a : Access α) (r : Result) : Prop := ∃ k, r = a.run s k

theorem Follows.of_map {α β : Type} {a : Access α} {f : α → β} (h : Follows s (a.map f) r) : Follows s a r := by
  obtain ⟨k, rfl⟩ := h
  exact ⟨fun v => k (f v), by cases a <;> rfl⟩

theorem Follows.fault {α : Type} {a : Access α} {f : Fault} (h : Follows s a r) (ha : a = .fault f) : r = .fault f := by
  obtain ⟨k, rfl⟩ := h; rw [ha]; rfl

theorem Follows.refused {α : Type} {a : Access α} {x : Refusal} (h : Follows s a r) (ha : a = .refused x) :
    r = .refused x := by
  obtain ⟨k, rfl⟩ := h; rw [ha]; rfl

/-! ## The first access of every instruction -/

/-- The result r begins with an access of this kind, size and address, if one is given. -/
inductive Begins (s : State) (r : Result) : Option (AccessKind × Nat × Word) → Prop where
  | noAccess : Begins s r none
  | loadByte {ea : Word} (h : Follows s (s.loadByte .read ea) r) : Begins s r (some (.read, 1, ea))
  | loadWord {ea : Word} (h : Follows s (s.loadWord .read ea) r) : Begins s r (some (.read, 2, ea))
  | loadLong {ea : Word} (h : Follows s (s.loadLong .read ea) r) : Begins s r (some (.read, 4, ea))
  | storeByte {ea : Word} {v : Byte} (h : Follows s (s.storeByte ea v) r) : Begins s r (some (.write, 1, ea))
  | storeWord {ea : Word} {v : Half} (h : Follows s (s.storeWord ea v) r) : Begins s r (some (.write, 2, ea))
  | storeLong {ea v : Word} (h : Follows s (s.storeLong ea v) r) : Begins s r (some (.write, 4, ea))

variable {o : Option (AccessKind × Nat × Word)}

theorem Begins.ifPrivileged (hp : s.privileged = true) (h : Begins s r o) : Begins s (s.ifPrivileged r) o := by
  rwa [State.ifPrivileged_true hp]

theorem Begins.notInSlot (hs : s.slot = none) (h : Begins s r o) : Begins s (s.notInSlot r) o := by
  rwa [State.notInSlot_none hs]

theorem Begins.pcRelative (hs : s.slot = none) (h : Begins s r o) : Begins s (s.pcRelative r) o := by
  rwa [State.pcRelative_none hs]

theorem Begins.distinctRegs {m n : Reg} (hmn : m ≠ n) (h : Begins s r o) : Begins s (distinctRegs m n r) o := by
  rwa [distinctRegs_ne hmn]

/-- What WellFormed says of a state (R186, R262, R280, R427). -/
theorem wellFormed_iff : WellFormed s.inSlot s.privileged i = true ↔
    (i.slotIllegal = true ∨ i.pcRelative = true → s.slot = none) ∧ (i.privileged = true → s.privileged = true) ∧
      i.sameRegister = false := by
  cases hs : s.slot <;> cases hp : s.privileged <;> simp [WellFormed, State.inSlot, hs, and_assoc]

/-- A well-formed instruction begins with its first access. -/
theorem exec_begins (hw : WellFormed s.inSlot s.privileged i = true) : Begins s (exec i s) (s.firstAccess i) := by
  obtain ⟨hslot, hpriv, hsame⟩ := wellFormed_iff.1 hw
  exact match i with
  -- loads
  | .movWPc _ _ => .pcRelative (hslot (.inr rfl)) (.loadWord (.of_map ⟨_, rfl⟩))
  | .movLPc _ _ => .pcRelative (hslot (.inr rfl)) (.loadLong ⟨_, rfl⟩)
  | .movBLoad _ _ | .movBLoadInc _ _ | .movBLoadDisp _ _ | .movBLoadIdx _ _ | .movBLoadGbr _ =>
    .loadByte (.of_map ⟨_, rfl⟩)
  | .movWLoad _ _ | .movWLoadInc _ _ | .movWLoadDisp _ _ | .movWLoadIdx _ _ | .movWLoadGbr _ =>
    .loadWord (.of_map ⟨_, rfl⟩)
  | .movLLoad _ _ | .movLLoadInc _ _ | .movLLoadDisp _ _ _ | .movLLoadIdx _ _ | .movLLoadGbr _ | .ldcLGbr _
  | .ldsLMach _ | .ldsLMacl _ | .ldsLPr _ => .loadLong ⟨_, rfl⟩
  | .ldcLVbr _ | .ldcLSsr _ | .ldcLSpc _ | .ldcLBank _ _ => .ifPrivileged (hpriv rfl) (.loadLong ⟨_, rfl⟩)
  | .ldcLSr _ => .notInSlot (hslot (.inl rfl)) (.ifPrivileged (hpriv rfl) (.loadLong ⟨_, rfl⟩))
  | .macL _ _ => .distinctRegs (of_decide_eq_false hsame) (.loadLong ⟨_, rfl⟩)
  | .macW _ _ => .distinctRegs (of_decide_eq_false hsame) (.loadWord ⟨_, rfl⟩)
  | .andB _ | .orB _ | .tasB _ | .tstB _ | .xorB _ => .loadByte ⟨_, rfl⟩
  -- stores
  | .movBStore _ _ | .movBStoreDec _ _ | .movBStoreDisp _ _ | .movBStoreIdx _ _ | .movBStoreGbr _ => .storeByte ⟨_, rfl⟩
  | .movWStore _ _ | .movWStoreDec _ _ | .movWStoreDisp _ _ | .movWStoreIdx _ _ | .movWStoreGbr _ => .storeWord ⟨_, rfl⟩
  | .movLStore _ _ | .movLStoreDec _ _ | .movLStoreDisp _ _ _ | .movLStoreIdx _ _ | .movLStoreGbr _ | .stcLGbr _
  | .stsLMach _ | .stsLMacl _ | .stsLPr _ => .storeLong ⟨_, rfl⟩
  | .stcLSr _ | .stcLVbr _ | .stcLSsr _ | .stcLSpc _ | .stcLBank _ _ => .ifPrivileged (hpriv rfl) (.storeLong ⟨_, rfl⟩)
  -- no access
  | .movImm _ _ | .mov _ _ | .mova _ | .movt _ | .swapB _ _ | .swapW _ _ | .xtrct _ _ | .add _ _ | .addImm _ _ | .addc _ _
  | .addv _ _ | .cmpEqImm _ | .cmpEq _ _ | .cmpHs _ _ | .cmpGe _ _ | .cmpHi _ _ | .cmpGt _ _ | .cmpPz _ | .cmpPl _
  | .cmpStr _ _ | .div0s _ _ | .div0u | .div1 _ _ | .dmulsL _ _ | .dmuluL _ _ | .mulL _ _ | .mulsW _ _ | .muluW _ _
  | .neg _ _ | .negc _ _ | .sub _ _ | .subc _ _ | .subv _ _ | .dt _ | .extsB _ _ | .extsW _ _ | .extuB _ _ | .extuW _ _
  | .and _ _ | .andImm _ | .not _ _ | .or _ _ | .orImm _ | .tst _ _ | .tstImm _ | .xor _ _ | .xorImm _ | .rotl _ | .rotr _
  | .rotcl _ | .rotcr _ | .shal _ | .shar _ | .shad _ _ | .shll _ | .shlr _ | .shll2 _ | .shll8 _ | .shll16 _ | .shlr2 _
  | .shlr8 _ | .shlr16 _ | .shld _ _ | .bf _ | .bfS _ | .bt _ | .btS _ | .bra _ | .braf _ | .bsr _ | .bsrf _ | .jmp _
  | .jsr _ | .rts | .clrmac | .clrs | .clrt | .sets | .sett | .nop | .ldcSr _ | .ldcGbr _ | .ldcVbr _ | .ldcSsr _
  | .ldcSpc _ | .ldcBank _ _ | .stcSr _ | .stcGbr _ | .stcVbr _ | .stcSsr _ | .stcSpc _ | .stcBank _ _ | .ldsMach _
  | .ldsMacl _ | .ldsPr _ | .stsMach _ | .stsMacl _ | .stsPr _ | .rte | .trapa _ | .sleep | .pref _ | .ldtlb => .noAccess

/-! ## Where it stops -/

/-- A first access to P4 is refused (R72). -/
theorem Begins.p4 {k : AccessKind} {n : Nat} {ea : Word} (h : Begins s r (some (k, n, ea))) (hb : ¬ s.BadAddress n ea)
    (hp : 0xE0000000 ≤ ea.toNat) (hr : n = 4 → ∀ q, ¬ s.ReachesEvent ea q) : r = .refused (.p4Access ea) := by
  cases h with
  | loadByte h => exact h.refused (State.loadByte_p4 hb hp .read)
  | loadWord h => exact h.refused (State.loadWord_p4 hb hp .read)
  | loadLong h => exact h.refused (State.loadLong_p4 hb hp (hr rfl) .read)
  | storeByte h => exact h.refused (State.storeByte_p4 hb hp _)
  | storeWord h => exact h.refused (State.storeWord_p4 hb hp _)
  | storeLong h => exact h.refused (State.storeLong_p4 hb hp (hr rfl) _)

/-- A first read of a byte without a value faults (R45). -/
theorem Begins.unwritten {n : Nat} {ea : Word} (h : Begins s r (some (.read, n, ea))) (hm : s.MayAccess n ea)
    (hu : ∃ a ∈ span (place ea) n, s.readByte a = none) :
    ∃ a ∈ span (place ea) n, s.readByte a = none ∧ r = .fault (.unwrittenMemory a) := by
  cases h with
  | loadByte h =>
    obtain ⟨a, ha, hn, hf⟩ := State.loadByte_unwritten hm hu .read
    exact ⟨a, ha, hn, h.fault hf⟩
  | loadWord h =>
    obtain ⟨a, ha, hn, hf⟩ := State.loadWord_unwritten hm hu .read
    exact ⟨a, ha, hn, h.fault hf⟩
  | loadLong h =>
    obtain ⟨a, ha, hn, hf⟩ := State.loadLong_unwritten hm hu .read
    exact ⟨a, ha, hn, h.fault hf⟩

/-- Settles O23: a well-formed instruction stops where its first access does. -/
theorem memoryStops : Obligations.MemoryStops := by
  intro i s k n ea hf hw hb
  have hbegins := exec_begins hw
  rw [hf] at hbegins
  refine ⟨hbegins.p4 hb, fun hlt hk hu => ?_⟩
  subst hk
  simp only [← State.readByte_eq_none] at hu ⊢
  exact hbegins.unwritten ⟨hb, hlt⟩ hu

end Sys2Proof.Machine
end

section
/-! PROOFS. The multiply-accumulate instructions (41_arithmetic.md R195, R196; logs 3, 6, 8, 13 and 22). -/

namespace Sys2Proof.Machine

variable {s : State} {m n : Reg}

/-! ## The accumulation -/

theorem clamp_eq_max_min {lo hi : Int} (h : lo ≤ hi) (x : Int) : clamp lo hi x = max lo (min hi x) := by
  unfold clamp; split
  · omega
  · split <;> omega

/-- The product of two signed words fits in 64 bits. -/
theorem toInt_ofInt_product (a b : Word) : (BitVec.ofInt 64 (a.toInt * b.toInt)).toInt = a.toInt * b.toInt := by
  have hlo := BitVec.le_toInt_mul_toInt (x := a) (y := b)
  have hhi := BitVec.toInt_mul_toInt_le (x := a) (y := b)
  exact BitVec.toInt_ofInt_eq_self (by decide) (by omega) (by omega)

theorem macLong_wraps (mac p : BitVec 64) : macLong false mac p = mac + p := rfl

/-- With S = 1 bits 47:0 of `MAC.L`'s result are the clamped sum (R195). -/
theorem macLong_saturates (mac : BitVec 64) (a b : Word) :
    ((macLong true mac (BitVec.ofInt 64 (a.toInt * b.toInt))).extractLsb' 0 48).toInt =
      max (-2 ^ 47) (min (2 ^ 47 - 1) ((mac.extractLsb' 0 48).toInt + a.toInt * b.toInt)) := by
  simp only [macLong, if_true, BitVec.extractLsb'_append_eq_right, toInt_ofInt_product]
  rw [clamp_eq_max_min (by decide)]
  exact BitVec.toInt_ofInt_eq_self (by decide) (by omega) (by omega)

theorem macWord_wraps (mac : BitVec 64) (p : Int) : macWord false mac p = mac + BitVec.ofInt 64 p := rfl

/-- MAC is MACH and MACL (R42). -/
theorem State.mac_low (s : State) : s.mac.extractLsb' 0 32 = s.macl := BitVec.extractLsb'_append_eq_right

theorem State.mac_high (s : State) : s.mac.extractLsb' 32 32 = s.mach := BitVec.extractLsb'_append_eq_left

/-- With S = 1 `MAC.W` clamps MACL (R196). -/
theorem macWord_saturates_low (s : State) (p : Int) :
    (macWord true s.mac p).extractLsb' 0 32 = BitVec.ofInt 32 (clamp (-2 ^ 31) (2 ^ 31 - 1) (s.macl.toInt + p)) := by
  simp only [macWord, if_true, BitVec.extractLsb'_append_eq_right, State.mac_low]

/-- With S = 1 `MAC.W` sets bit 0 of MACH on overflow (R196). -/
theorem macWord_saturates_high (s : State) (p : Int) :
    (macWord true s.mac p).extractLsb' 32 32 = if signedOverflow (s.macl.toInt + p) then s.mach ||| 1 else s.mach := by
  simp only [macWord, if_true, BitVec.extractLsb'_append_eq_left, State.mac_low, State.mac_high]

/-- The three cases of `MAC.W` with S = 1 (R196). -/
theorem macWord_saturates (s : State) (p : Int) {high low : Word} (hhigh : high = (macWord true s.mac p).extractLsb' 32 32)
    (hlow : low = (macWord true s.mac p).extractLsb' 0 32) :
    (s.macl.toInt + p > 2 ^ 31 - 1 → low = 0x7FFFFFFF ∧ high = s.mach ||| 1) ∧
    (s.macl.toInt + p < -2 ^ 31 → low = 0x80000000 ∧ high = s.mach ||| 1) ∧
    (-2 ^ 31 ≤ s.macl.toInt + p → s.macl.toInt + p ≤ 2 ^ 31 - 1 → low.toInt = s.macl.toInt + p ∧ high = s.mach) := by
  rw [macWord_saturates_high] at hhigh
  rw [macWord_saturates_low] at hlow
  generalize s.macl.toInt + p = x at *
  subst hhigh hlow
  refine ⟨fun h => ⟨?_, if_pos ?_⟩, fun h => ⟨?_, if_pos ?_⟩, fun h h' => ⟨?_, if_neg ?_⟩⟩
  · rw [clamp, if_neg (by omega), if_pos (by omega)]; rfl
  · exact decide_eq_true (.inr h)
  · rw [clamp, if_pos (by omega)]; rfl
  · exact decide_eq_true (.inl h)
  · rw [clamp, if_neg (by omega), if_neg (by omega)]
    exact BitVec.toInt_ofInt_eq_self (by decide) (by omega) (by omega)
  · simp only [signedOverflow, decide_eq_true_eq]; omega

/-! ## The two reads -/

/-- The second address is the register as it was (R195: m is not n). -/
theorem reg_second (hmn : m ≠ n) (v : Word) : (s.nextAnswers.setReg n v).reg m = s.reg m := by
  simp [State.reg_setReg, hmn]

/-- What the oracle's next answers make readable is so after the increment. -/
theorem readable_second {k v : Nat} {ea x : Word} (h : s.nextAnswers.Readable k ea v) :
    (s.nextAnswers.setReg n x).Readable k ea v :=
  h.congr (by simp) (by simp) (by simp) fun r => by cases r <;> simp [State.eventReg]

theorem exec_macL_ne (hmn : m ≠ n) : exec (.macL m n) s =
    s.macReads (fun t a => t.loadLong .read a) 4 m n fun t a b =>
      t.setMac (macLong t.flagS t.mac (BitVec.ofInt 64 (a.toInt * b.toInt))) := distinctRegs_ne hmn _

theorem exec_macW_ne (hmn : m ≠ n) : exec (.macW m n) s =
    s.macReads (fun t a => t.loadWord .read a) 2 m n fun t a b =>
      t.setMac (macWord t.flagS t.mac (a.toInt * b.toInt)) := distinctRegs_ne hmn _

theorem exec_macL_same (n : Reg) : exec (.macL n n) s = .refused (.sameRegister n) := distinctRegs_same n _

theorem exec_macW_same (n : Reg) : exec (.macW n n) s = .refused (.sameRegister n) := distinctRegs_same n _

/-- A `MAC` whose operands are both readable: it moves both registers and writes MAC, in the state after both reads. -/
theorem finishes_macReads {i : Instr} {w : Nat} {load : State → Word → Access (BitVec w)} {size : Word}
    {acc : Bool → BitVec 64 → BitVec w → BitVec w → BitVec 64} {a b : BitVec w} (hmn : m ≠ n)
    (h : exec i s = s.macReads load size m n fun t a b => t.setMac (acc t.flagS t.mac a b))
    (ha : load s (s.reg n) = .ok a) (hb : load (s.nextAnswers.setReg n (s.reg n + size)) (s.reg m) = .ok b) :
    Finishes i s [n, m] [] [.mach, .macl] [] fun t =>
      t.reg n = s.reg n + size ∧ t.reg m = s.reg m + size ∧ t.mac = acc s.flagS s.mac a b := by
  have hrun := State.macReads_done (rest := fun t a b => t.setMac (acc t.flagS t.mac a b)) ha
    (by rw [reg_second hmn]; exact hb)
  refine finishes_done (h.trans hrun)
    ((((Kept.nextAnswers s).trans (Kept.setReg ..)).trans (Kept.setReg ..)).trans (Kept.setMac ..)) (by simp) (by simp)
    ⟨?_, ?_, by simp⟩
  · simp [State.reg_setReg, hmn.symm]
  · simp [State.reg_setReg, hmn]

/-- `MAC.L` with both operands readable (R195). -/
theorem finishes_macL (hmn : m ≠ n) {a b : Word} (ha : s.Readable 4 (s.reg n) a.toNat)
    (hb : s.nextAnswers.Readable 4 (s.reg m) b.toNat) :
    Finishes (.macL m n) s [n, m] [] [.mach, .macl] [] fun t =>
      t.reg n = s.reg n + 4 ∧ t.reg m = s.reg m + 4 ∧
        t.mac = macLong s.flagS s.mac (BitVec.ofInt 64 (a.toInt * b.toInt)) :=
  finishes_macReads (load := fun t x => t.loadLong .read x)
    (acc := fun S mac a b => macLong S mac (BitVec.ofInt 64 (a.toInt * b.toInt))) hmn (exec_macL_ne hmn)
    (by simpa using State.loadLong_readable ha .read)
    (by simpa using State.loadLong_readable (readable_second hb) .read)

/-- `MAC.W` with both operands readable (R196). -/
theorem finishes_macW (hmn : m ≠ n) {a b : Half} (ha : s.Readable 2 (s.reg n) a.toNat)
    (hb : s.nextAnswers.Readable 2 (s.reg m) b.toNat) :
    Finishes (.macW m n) s [n, m] [] [.mach, .macl] [] fun t =>
      t.reg n = s.reg n + 2 ∧ t.reg m = s.reg m + 2 ∧ t.mac = macWord s.flagS s.mac (a.toInt * b.toInt) :=
  finishes_macReads (load := fun t x => t.loadWord .read x)
    (acc := fun S mac a b => macWord S mac (a.toInt * b.toInt)) hmn (exec_macW_ne hmn)
    (by simpa using State.loadWord_readable ha .read)
    (by simpa using State.loadWord_readable (readable_second hb) .read)

/-- What an instruction that finishes leaves may be said more weakly. -/
theorem Finishes.imp {i : Instr} {regs : List Reg} {bits : List Nat} {parts : List Part} {bytes : List Nat}
    {p q : State → Prop} (h : Finishes i s regs bits parts bytes p) (hpq : ∀ t, p t → q t) :
    Finishes i s regs bits parts bytes q := by
  obtain ⟨t, he, hp, hk, hc⟩ := h
  exact ⟨t, he, hpq t hp, hk, hc⟩

/-- Settles O44: both reads, then the accumulation with S = 0 and S = 1. -/
theorem macAccumulates : Obligations.MacAccumulates := by
  intro m n s
  refine ⟨⟨decode_of_fields rfl, fun a b hmn ha hb => ?long, fun hmn hbad => ?longBad, fun h => h ▸ exec_macL_same m⟩,
    decode_of_fields rfl, fun a b hmn ha hb => ?word, fun hmn hbad => ?wordBad, fun h => h ▸ exec_macW_same m⟩
  case long =>
    refine (finishes_macL hmn ha hb).imp fun t ⟨hn, hm, hmac⟩ => ⟨hn, hm, fun hS => ?_, fun hS => ?_⟩
    · rw [hmac, hS, macLong_wraps]
    · rw [hmac, hS, macLong_saturates]
  case longBad => exact (exec_macL_ne hmn).trans (State.macReads_raises_first (State.loadLong_bad hbad .read))
  case word =>
    refine (finishes_macW hmn ha hb).imp fun t ⟨hn, hm, hmac⟩ => ⟨hn, hm, fun hS => ?_, fun hS => ?_⟩
    · rw [hmac, hS, macWord_wraps]
    · rw [hS] at hmac
      exact macWord_saturates s _ (hmac ▸ t.mac_high.symm) (hmac ▸ t.mac_low.symm)
  case wordBad => exact (exec_macW_ne hmn).trans (State.macReads_raises_first (State.loadWord_bad hbad .read))

/-! ## The second read stops -/

/-- Between the two reads an address stays as good or bad as it was. -/
theorem badAddress_second {k : Nat} {ea v : Word} : (s.nextAnswers.setReg n v).BadAddress k ea ↔ s.BadAddress k ea := by
  simp [State.BadAddress]

theorem reachesEvent_second {ea v : Word} {r : EventReg} :
    (s.nextAnswers.setReg n v).ReachesEvent ea r ↔ s.ReachesEvent ea r := by
  simp [State.ReachesEvent]

section
variable {w : Nat} {load : State → Word → Access (BitVec w)} {size : Word}
  {rest : State → BitVec w → BitVec w → State} {a : BitVec w} {k : Nat}

/-- The second read of a `MAC` is refused (R72). -/
theorem macReads_second_refused (hmn : m ≠ n) (ha : load s (s.reg n) = .ok a) {x : Refusal}
    (hb : load (s.nextAnswers.setReg n (s.reg n + size)) (s.reg m) = .refused x) :
    s.macReads load size m n rest = .refused x :=
  State.macReads_refused_second ha (by rw [reg_second hmn]; exact hb)

/-- The second read of a `MAC` faults at a byte without a value (R45). -/
theorem macReads_second_unwritten (hmn : m ≠ n) (ha : load s (s.reg n) = .ok a)
    (hb : FaultsAmong (s.nextAnswers.setReg n (s.reg n + size)) (place (s.reg m)) k
      (load (s.nextAnswers.setReg n (s.reg n + size)) (s.reg m))) :
    ∃ x ∈ span (place (s.reg m)) k, (s.mem.read x = none ∧ x ∉ s.shared) ∧
      s.macReads load size m n rest = .fault (.unwrittenMemory x) := by
  obtain ⟨x, hx, hnone, hf⟩ := hb
  rw [State.readByte_none_nextAnswers, State.readByte_eq_none] at hnone
  exact ⟨x, hx, hnone, State.macReads_fault_second ha (by rw [reg_second hmn]; exact hf)⟩

end

theorem unwritten_second {k : Nat} {v : Word} {p : Nat} (h : ∃ a ∈ span p k, s.mem.read a = none ∧ a ∉ s.shared) :
    ∃ a ∈ span p k, (s.nextAnswers.setReg n v).readByte a = none := by
  obtain ⟨a, ha, hnone⟩ := h
  exact ⟨a, ha, (State.readByte_none_nextAnswers n v a).2 ((s.readByte_eq_none a).2 hnone)⟩

/-- Settles O46: the second read of each `MAC`, in the state between the reads. -/
theorem macSecondReadStops : Obligations.MacSecondReadStops := by
  intro m n s
  refine ⟨fun v hmn hv hbad => ?long, fun v hmn hv hbad => ?word, fun h => h ▸ ⟨exec_macL_same m, exec_macW_same m⟩⟩
  case long =>
    have hfirst := State.loadLong_readable hv .read
    have hbad' := mt (badAddress_second (n := n) (v := s.reg n + 4)).1 hbad
    rw [exec_macL_ne hmn]
    refine ⟨fun hp hr => macReads_second_refused hmn hfirst ?_, fun hlt hu => macReads_second_unwritten hmn hfirst ?_⟩
    · exact State.loadLong_p4 hbad' hp (fun r => mt reachesEvent_second.1 (hr r)) .read
    · exact State.loadLong_unwritten ⟨hbad', hlt⟩ (unwritten_second hu) .read
  case word =>
    have hfirst := State.loadWord_readable hv .read
    have hbad' := mt (badAddress_second (n := n) (v := s.reg n + 2)).1 hbad
    rw [exec_macW_ne hmn]
    refine ⟨fun hp => macReads_second_refused hmn hfirst ?_, fun hlt hu => macReads_second_unwritten hmn hfirst ?_⟩
    · exact State.loadWord_p4 hbad' hp .read
    · exact State.loadWord_unwritten ⟨hbad', hlt⟩ (unwritten_second hu) .read

end Sys2Proof.Machine
end

section
/-! PROOFS. The address map in privileged mode, and the address errors of every memory instruction (20_memory.md R63, R65,
60_exceptions.md R361; log 15). -/

namespace Sys2Proof.Machine

variable {s : State} {r : Result} {a b : Word}

/-! ## Where memory is reached -/

theorem State.loadByte_memory (h : s.MayAccess 1 a) (k : AccessKind) : s.loadByte k a = s.byteAt (place a) := by
  simp only [State.loadByte, State.locate_memory h, Access.bind]

theorem State.loadWord_memory (h : s.MayAccess 2 a) (k : AccessKind) :
    s.loadWord k a = (s.byteAt (place a)).bind fun b0 => (s.byteAt (place a + 1)).bind fun b1 =>
      .ok (s.endian.join2 b0 b1) := by
  rw [State.loadWord, State.locate_memory h]; rfl

theorem State.loadLong_memory (h : s.MayAccess 4 a) (k : AccessKind) :
    s.loadLong k a = (s.byteAt (place a)).bind fun b0 => (s.byteAt (place a + 1)).bind fun b1 =>
      (s.byteAt (place a + 2)).bind fun b2 => (s.byteAt (place a + 3)).bind fun b3 => .ok (s.endian.join4 b0 b1 b2 b3) := by
  rw [State.loadLong, State.locate_memory h]; rfl

/-- A byte that a store of one byte wrote (R67). -/
theorem State.read_storeBytes_singleton (s : State) (p : Nat) (v : Byte) : (s.storeBytes p [v]).mem.read p = some v := by
  simp [Memory.read_writeBytes]

/-! ## Segments -/

/-- In privileged mode every aligned access below P4 reaches memory (R65). -/
theorem State.mayAccess_of_privileged {n : Nat} (hp : s.privileged = true) (hlt : a.toNat < 0xE0000000)
    (haligned : a.toNat % n = 0) : s.MayAccess n a :=
  ⟨not_or.2 ⟨not_not.2 haligned, fun hu => by simp [hp] at hu⟩, hlt⟩

/-- The low 29 bits hold the alignment of every access. -/
theorem aligned_of_place_eq {n : Nat} (hn : n ∣ 2 ^ 29) (h : place a = place b) (ha : a.toNat % n = 0) :
    b.toNat % n = 0 := by
  rw [← Nat.mod_mod_of_dvd _ hn] at ha ⊢
  rwa [← show place a % n = b.toNat % 2 ^ 29 % n from congrArg (· % n) h]

/-- Settles O19: below P4 a load or store depends on its address through its place alone. -/
theorem segmentsAlias : Obligations.SegmentsAlias := by
  intro s a b hp ha hb hab
  have hplace : place a = place b := hab
  have hboth {n : Nat} (hn : n ∣ 2 ^ 29) (hal : a.toNat % n = 0) : s.MayAccess n a ∧ s.MayAccess n b :=
    ⟨State.mayAccess_of_privileged hp ha hal, State.mayAccess_of_privileged hp hb (aligned_of_place_eq hn hplace hal)⟩
  have hbyte := hboth (n := 1) (by decide) (Nat.mod_one _)
  refine ⟨?byte, fun hal => ?word, fun hal => ?long, fun v => ?store⟩
  case byte => rw [State.loadByte_memory hbyte.1, State.loadByte_memory hbyte.2, hplace]
  case word =>
    obtain ⟨hma, hmb⟩ := hboth (n := 2) (by decide) hal
    rw [State.loadWord_memory hma, State.loadWord_memory hmb, hplace]
  case long =>
    obtain ⟨hma, hmb⟩ := hboth (n := 4) (by decide) hal
    rw [State.loadLong_memory hma, State.loadLong_memory hmb, hplace]
  case store =>
    refine ⟨_, State.storeByte_memory hbyte.1 v, ?_⟩
    rw [hplace]
    exact ⟨s.read_storeBytes_singleton (place b) v, fun hs => State.loadByte_storeBytes hbyte.2 hs v .read⟩

/-! ## Address errors -/

theorem Follows.raises {α : Type} {x : Access α} {e : Exc} (h : Follows s x r) (hx : x = .raises e) :
    r = .next (s.takeExc e) := by
  obtain ⟨k, rfl⟩ := h; rw [hx]; rfl

/-- A first access at a bad address raises in the unchanged state (R63, R361). -/
theorem Begins.bad {k : AccessKind} {n : Nat} {ea : Word} (h : Begins s r (some (k, n, ea))) (hb : s.BadAddress n ea) :
    r = .next (s.takeExc (.addressError k ea)) := by
  cases h with
  | loadByte h => exact h.raises (State.loadByte_bad hb .read)
  | loadWord h => exact h.raises (State.loadWord_bad hb .read)
  | loadLong h => exact h.raises (State.loadLong_bad hb .read)
  | storeByte h => exact h.raises (State.storeByte_bad hb _)
  | storeWord h => exact h.raises (State.storeWord_bad hb _)
  | storeLong h => exact h.raises (State.storeLong_bad hb _)

/-- Settles O22: a well-formed instruction raises where its first access does. -/
theorem addressErrors : Obligations.AddressErrors := by
  intro i s k n ea hf hw hb
  have hbegins := exec_begins hw
  rw [hf] at hbegins
  exact hbegins.bad hb

end Sys2Proof.Machine
end

section
/-! PROOFS. The step of a fetched word, and the privileged instructions SLEEP and LDTLB
(20_memory.md R62, 44_branch.md R260, 45_system_control.md R280, R307, R312; logs 11 and 12). -/

namespace Sys2Proof.Machine

variable {i : Instr} {s : State}

/-! ## A fetched word -/

/-- The word that stands at pc as text is what a fetch answers (R62, R71). -/
theorem State.Fetches.fetch_eq {w : Half} (h : s.Fetches w) : s.fetch = .ok w := by
  have hown : ∀ a ∈ span (place s.pc) 2, a ∉ s.shared := fun a ha => ((s.isText_iff a).1 (h.text a ha)).2
  rw [State.fetch_text h.access h.text, State.loadWord_readable (.inl ⟨h.access, h.holds.gives hown⟩),
    BitVec.ofNat_toNat, BitVec.setWidth_eq]

/-- Settles O6: nothing comes before the fetch, and the fetch answers the word. -/
theorem stepRunsDecoded : Obligations.StepRunsDecoded := by
  intro s w i hw hd
  simp only [step, hw.undisturbed.before, hw.fetch_eq, Access.run_ok, hd]

/-! ## Privileged instructions -/

theorem State.illegalExc_eq (s : State) :
    s.illegalExc = if s.slot = none then .reservedInstruction else .illegalSlot := by
  cases hs : s.slot <;> simp [State.illegalExc, State.inSlot, hs]

/-- An instruction that asks for privileged mode first is the rest of its meaning there, and raises elsewhere (R280). -/
theorem onlyPrivileged_of_ifPrivileged {r : Result} (h : exec i s = s.ifPrivileged r) :
    OnlyPrivileged i s (exec i s = r) where
  left hp := by rw [h, State.ifPrivileged_true hp]
  right hu := by rw [Raises, h, State.ifPrivileged_false hu, State.illegalExc_eq]

/-- Everything that completing an instruction changes (R260, R69). -/
theorem State.advance_eq (s : State) :
    s.advance = { s with
      pc := s.slot.getD (s.pc + 2), slot := none, oracleCount := s.oracleCount + 1 } := by
  unfold State.advance
  split
  case h_1 hs => simp [State.nextAnswers, hs]
  case h_2 target hs => simp [State.nextAnswers, hs]

/-- Settles O60: both ask for privileged mode; then SLEEP completes asleep, and LDTLB is refused. -/
theorem sleepAndLdtlb : Obligations.SleepAndLdtlb := by
  intro s
  have hsleep := onlyPrivileged_of_ifPrivileged (i := .sleep) (s := s) rfl
  rw [State.done, State.advance_eq] at hsleep
  exact ⟨rfl, rfl, hsleep, onlyPrivileged_of_ifPrivileged rfl⟩

end Sys2Proof.Machine
end

section
/-! PROOFS. The decoder, the encoder and the opcode table agree, and what a step does on a reserved word
(30_encoding.md R90 to R97; log 24). -/

namespace Sys2Proof

/-! ## The four fields of a word -/

section
variable (a n m d : BitVec 4)

theorem fields_and_fields (a' n' m' d' : BitVec 4) : (a ++ n ++ m ++ d : Half) &&& (a' ++ n' ++ m' ++ d') =
    (a &&& a') ++ (n &&& n') ++ (m &&& m') ++ (d &&& d') := by
  simp only [BitVec.and_append]

/-- A word under a mask, field by field. -/
theorem fields_and (mask : Half) : (a ++ n ++ m ++ d : Half) &&& mask =
    (a &&& nibble mask 3) ++ (n &&& nibble mask 2) ++ (m &&& nibble mask 1) ++ (d &&& nibble mask 0) := by
  rw [← fields_and_fields, fields_nibble]

theorem fields_eq_iff (w : Half) : (a ++ n ++ m ++ d : Half) = w ↔
    a = nibble w 3 ∧ n = nibble w 2 ∧ m = nibble w 1 ∧ d = nibble w 0 where
  mp h := by subst h; simp
  mpr := by rintro ⟨rfl, rfl, rfl, rfl⟩; exact fields_nibble w

theorem byte_high : (m ++ d : BitVec 8).extractLsb' 4 4 = m := BitVec.extractLsb'_append_eq_left

theorem byte_low : (m ++ d : BitVec 8).extractLsb' 0 4 = d := BitVec.extractLsb'_append_eq_right

theorem and_fifteen : a &&& 0xF#4 = a := BitVec.and_allOnes

end

section
variable (a d : BitVec 4) (n : Reg) (t x : BitVec 8) (b : BankReg)

theorem wordN_eq : wordN a n x = a ++ regField n ++ x.extractLsb' 4 4 ++ x.extractLsb' 0 4 := byte_field _ _ _

theorem wordD4_eq : wordD4 t n d = t.extractLsb' 4 4 ++ t.extractLsb' 0 4 ++ regField n ++ d := top_field _ _ _

theorem wordI_eq : wordI t x = t.extractLsb' 4 4 ++ t.extractLsb' 0 4 ++ x.extractLsb' 4 4 ++ x.extractLsb' 0 4 := by
  rw [wordI, ← byte_field, halves_append]

theorem wordD12_eq (y : BitVec 12) :
    wordD12 a y = a ++ y.extractLsb' 8 4 ++ y.extractLsb' 4 4 ++ y.extractLsb' 0 4 := displacement_field _ _

theorem wordD12_append (n m : BitVec 4) : wordD12 a (n ++ m ++ d) = a ++ n ++ m ++ d := by
  apply BitVec.eq_of_toNat_eq
  rw [wordD12_eq, toNat_fields, toNat_fields]
  simp only [BitVec.extractLsb'_toNat, toNat_append4, Nat.shiftRight_eq_div_pow]
  omega

theorem bankField_and : bankField b &&& 0x8#4 = 0x8#4 := by revert b; decide

/-- The fields `1bbb` are those that name a back-bank register (R92). -/
theorem forall_bankField {p : BitVec 4 → Prop} : (∀ m, m &&& 0x8#4 = 0x8#4 → p m) ↔ ∀ b, p (bankField b) where
  mp h b := h _ (bankField_and b)
  mpr h m hm := by
    have htop : m.getLsbD 3 = true := by revert m; decide
    exact bankField_bankRegOf htop ▸ h (bankRegOf m)

end

/-! ## The decoder -/

theorem decode_eq_ok_iff {w : Half} {i : Instr} :
    decode w = .ok i ↔ decodeNibbles (nibble w 3) (nibble w 2) (nibble w 1) (nibble w 0) = some i := by
  unfold decode; split <;> simp_all

/-- The decoder's one error on a word says that the word is no instruction (R96). -/
theorem decode_eq_error_iff {w : Half} : decode w = .error (.reservedWord w) ↔ ∀ i, decode w ≠ .ok i := by
  unfold decode; split <;> simp

/-- The decoder on a word of four fields that is no instruction. -/
theorem decode_reserved_of_fields {a n m d : BitVec 4} (h : decodeNibbles a n m d = none) :
    decode (a ++ n ++ m ++ d) = .error (.reservedWord (a ++ n ++ m ++ d)) := by
  rw [decode_fields, h]

/-! ## What the decoder reads from a word of each format (R91) -/

section
variable {a d : BitVec 4} {n m : Reg} {t x : BitVec 8} {b : BankReg} {i : Instr}

theorem decode_wordNM (h : decodeNibbles a (regField n) (regField m) d = some i) : decode (wordNM a n m d) = .ok i :=
  decode_of_fields h

theorem decode_wordN (h : decodeNibbles a (regField n) (x.extractLsb' 4 4) (x.extractLsb' 0 4) = some i) :
    decode (wordN a n x) = .ok i :=
  decode_of_byte h

theorem decode_wordN_operand {f : BitVec 8 → Reg → Instr}
    (h : ∀ m d, decodeNibbles a (regField n) m d = some (f (m ++ d) n)) : decode (wordN a n x) = .ok (f x n) := by
  rw [decode_wordN (h _ _), halves_append]

theorem decode_wordD4 (h : decodeNibbles (t.extractLsb' 4 4) (t.extractLsb' 0 4) (regField m) d = some i) :
    decode (wordD4 t m d) = .ok i :=
  decode_of_top h

theorem decode_wordB (h : decodeNibbles a (regField n) (bankField b) d = some i) : decode (wordB a n b d) = .ok i :=
  decode_of_fields h

theorem decode_wordI {f : BitVec 8 → Instr}
    (h : ∀ m d, decodeNibbles (t.extractLsb' 4 4) (t.extractLsb' 0 4) m d = some (f (m ++ d))) :
    decode (wordI t x) = .ok (f x) := by
  rw [wordI, decode_of_top_byte (h _ _), halves_append]

theorem decode_wordD12 {f : BitVec 12 → Instr} {y : BitVec 12}
    (h : ∀ n m d, decodeNibbles a n m d = some (f (n ++ m ++ d))) : decode (wordD12 a y) = .ok (f y) := by
  rw [wordD12, decode_of_displacement (h _ _ _), thirds_append]

end

section
variable (n : BitVec 4) (b : BankReg)

theorem decodeNibbles_stcBank : decodeNibbles 0x0#4 n (bankField b) 0x2#4 = some (.stcBank b (regOf n)) := by
  fin_cases b <;> rfl

theorem decodeNibbles_stcLBank : decodeNibbles 0x4#4 n (bankField b) 0x3#4 = some (.stcLBank b (regOf n)) := by
  fin_cases b <;> rfl

theorem decodeNibbles_ldcLBank : decodeNibbles 0x4#4 n (bankField b) 0x7#4 = some (.ldcLBank (regOf n) b) := by
  fin_cases b <;> rfl

theorem decodeNibbles_ldcBank : decodeNibbles 0x4#4 n (bankField b) 0xE#4 = some (.ldcBank (regOf n) b) := by
  fin_cases b <;> rfl

end

/-! ## Round trips -/

/-- Settles O1: the decoder on the word of each instruction, by the format of the word. -/
theorem encodeThenDecode : Obligations.EncodeThenDecode := fun i =>
  match i with
  -- formats nm and nmd
  | .mov _ _ | .movBStore _ _ | .movWStore _ _ | .movLStore _ _ | .movBLoad _ _ | .movWLoad _ _ | .movLLoad _ _
  | .movBStoreDec _ _ | .movWStoreDec _ _ | .movLStoreDec _ _ | .movBLoadInc _ _ | .movWLoadInc _ _ | .movLLoadInc _ _
  | .movBStoreIdx _ _ | .movWStoreIdx _ _ | .movLStoreIdx _ _ | .movBLoadIdx _ _ | .movWLoadIdx _ _ | .movLLoadIdx _ _
  | .movLStoreDisp _ _ _ | .movLLoadDisp _ _ _ | .swapB _ _ | .swapW _ _ | .xtrct _ _ | .add _ _ | .addc _ _ | .addv _ _
  | .cmpEq _ _ | .cmpHs _ _ | .cmpGe _ _ | .cmpHi _ _ | .cmpGt _ _ | .cmpStr _ _ | .div0s _ _ | .div1 _ _ | .dmulsL _ _
  | .dmuluL _ _ | .mulL _ _ | .mulsW _ _ | .muluW _ _ | .macL _ _ | .macW _ _ | .neg _ _ | .negc _ _ | .sub _ _
  | .subc _ _ | .subv _ _ | .extsB _ _ | .extsW _ _ | .extuB _ _ | .extuW _ _ | .and _ _ | .not _ _ | .or _ _ | .tst _ _
  | .xor _ _ | .shad _ _ | .shld _ _ => decode_wordNM rfl
  -- formats n and m
  | .movt _ | .cmpPz _ | .cmpPl _ | .dt _ | .tasB _ | .rotl _ | .rotr _ | .rotcl _ | .rotcr _ | .shal _ | .shar _ | .shll _
  | .shlr _ | .shll2 _ | .shll8 _ | .shll16 _ | .shlr2 _ | .shlr8 _ | .shlr16 _ | .braf _ | .bsrf _ | .jmp _ | .jsr _
  | .ldcSr _ | .ldcGbr _ | .ldcVbr _ | .ldcSsr _ | .ldcSpc _ | .ldcLSr _ | .ldcLGbr _ | .ldcLVbr _ | .ldcLSsr _ | .ldcLSpc _
  | .stcSr _ | .stcGbr _ | .stcVbr _ | .stcSsr _ | .stcSpc _ | .stcLSr _ | .stcLGbr _ | .stcLVbr _ | .stcLSsr _ | .stcLSpc _
  | .ldsMach _ | .ldsMacl _ | .ldsPr _ | .ldsLMach _ | .ldsLMacl _ | .ldsLPr _ | .stsMach _ | .stsMacl _ | .stsPr _
  | .stsLMach _ | .stsLMacl _ | .stsLPr _ | .pref _ => decode_wordN rfl
  -- formats ni and nd8
  | .movImm _ _ | .movWPc _ _ | .movLPc _ _ | .addImm _ _ => decode_wordN_operand fun _ _ => rfl
  -- formats md and nd4
  | .movBStoreDisp _ _ | .movWStoreDisp _ _ | .movBLoadDisp _ _ | .movWLoadDisp _ _ => decode_wordD4 rfl
  -- formats nb and mb
  | .stcBank _ _ => decode_wordB (decodeNibbles_stcBank _ _)
  | .stcLBank _ _ => decode_wordB (decodeNibbles_stcLBank _ _)
  | .ldcLBank _ _ => decode_wordB (decodeNibbles_ldcLBank _ _)
  | .ldcBank _ _ => decode_wordB (decodeNibbles_ldcBank _ _)
  -- formats d and i
  | .movBStoreGbr _ | .movWStoreGbr _ | .movLStoreGbr _ | .movBLoadGbr _ | .movWLoadGbr _ | .movLLoadGbr _ | .mova _
  | .cmpEqImm _ | .andImm _ | .andB _ | .orImm _ | .orB _ | .tstImm _ | .tstB _ | .xorImm _ | .xorB _ | .bf _ | .bfS _
  | .bt _ | .btS _ | .trapa _ => decode_wordI fun _ _ => rfl
  -- format d12
  | .bra _ | .bsr _ => decode_wordD12 fun _ _ _ => rfl
  -- no operand
  | .div0u | .rts | .clrmac | .clrs | .clrt | .sets | .sett | .nop | .rte | .sleep | .ldtlb => rfl

/-- Every answer of the decoder on four fields has the word of those fields: a case per arm of the decoder. -/
theorem encode_of_decodeNibbles (a n m d : BitVec 4) : ∀ i ∈ decodeNibbles a n m d, encode i = a ++ n ++ m ++ d := by
  fun_cases decodeNibbles a n m d
  case' case1 => fun_cases decode0 n m d
  case' case2 => unfold decode1
  case' case3 => fun_cases decode2 n m d
  case' case4 => fun_cases decode3 n m d
  case' case5 => fun_cases decode4 n m d
  case' case6 => unfold decode5
  case' case7 => fun_cases decode6 n m d
  case' case8 => unfold decode7
  case' case9 => fun_cases decode8 n m d
  case' case10 => unfold decode9
  case' case11 => unfold decodeA
  case' case12 => unfold decodeB
  case' case13 => fun_cases decodeC n m d
  case' case14 => unfold decodeD
  case' case15 => unfold decodeE
  -- the arms `_ /- 0xF -/` of decode4, decode6 and decodeC
  case' case5.case63 | case7.case16 => obtain rfl : d = 0xF#4 := by revert d; decide
  case' case13.case16 => obtain rfl : n = 0xF#4 := by revert n; decide
  all_goals
    simp only [Option.mem_def, Option.some.injEq, forall_eq', reduceCtorEq, IsEmpty.forall_iff, implies_true, if_pos, if_neg,
      not_false_eq_true, Bool.false_eq_true, *]
  all_goals
    unfold encode
    simp [wordNM, wordN_eq, wordB, wordD4_eq, wordI_eq, wordD12_append, byte_high, byte_low,
      bankField_bankRegOf, *]

/-- Settles O2: the decoder reads four fields and keeps every one of them. -/
theorem decodeThenEncode : Obligations.DecodeThenEncode := fun w i h => by
  rw [encode_of_decodeNibbles _ _ _ _ i (decode_eq_ok_iff.1 h), fields_nibble]

/-! ## The row of an instruction -/

/-- The bits by which a word is known to be of the instruction's row: all but those of its operands (R95). -/
def Instr.mask : Instr → Half
  -- formats ni, nd8, nmd and d12
  | .movImm _ _ | .movWPc _ _ | .movLPc _ _ | .addImm _ _ | .movLStoreDisp _ _ _ | .movLLoadDisp _ _ _ | .bra _ | .bsr _ =>
    0xF000
  -- formats md, nd4, d and i
  | .movBStoreDisp _ _ | .movWStoreDisp _ _ | .movBLoadDisp _ _ | .movWLoadDisp _ _ | .movBStoreGbr _ | .movWStoreGbr _
  | .movLStoreGbr _ | .movBLoadGbr _ | .movWLoadGbr _ | .movLLoadGbr _ | .mova _ | .cmpEqImm _ | .andImm _ | .andB _
  | .orImm _ | .orB _ | .tstImm _ | .tstB _ | .xorImm _ | .xorB _ | .bf _ | .bfS _ | .bt _ | .btS _ | .trapa _ => 0xFF00
  -- formats nb and mb
  | .stcBank _ _ | .stcLBank _ _ | .ldcBank _ _ | .ldcLBank _ _ => 0xF08F
  -- formats n and m
  | .movt _ | .cmpPz _ | .cmpPl _ | .dt _ | .tasB _ | .rotl _ | .rotr _ | .rotcl _ | .rotcr _ | .shal _ | .shar _ | .shll _
  | .shlr _ | .shll2 _ | .shll8 _ | .shll16 _ | .shlr2 _ | .shlr8 _ | .shlr16 _ | .braf _ | .bsrf _ | .jmp _ | .jsr _
  | .ldcSr _ | .ldcGbr _ | .ldcVbr _ | .ldcSsr _ | .ldcSpc _ | .ldcLSr _ | .ldcLGbr _ | .ldcLVbr _ | .ldcLSsr _ | .ldcLSpc _
  | .stcSr _ | .stcGbr _ | .stcVbr _ | .stcSsr _ | .stcSpc _ | .stcLSr _ | .stcLGbr _ | .stcLVbr _ | .stcLSsr _ | .stcLSpc _
  | .ldsMach _ | .ldsMacl _ | .ldsPr _ | .ldsLMach _ | .ldsLMacl _ | .ldsLPr _ | .stsMach _ | .stsMacl _ | .stsPr _
  | .stsLMach _ | .stsLMacl _ | .stsLPr _ | .pref _ => 0xF0FF
  -- no operand
  | .div0u | .rts | .clrmac | .clrs | .clrt | .sets | .sett | .nop | .rte | .sleep | .ldtlb => 0xFFFF
  -- format nm
  | _ => 0xF00F

/-- The row that an instruction's word is of: its mask, and what the word has under it. -/
def Instr.row (i : Instr) : OpcodeRow := ⟨i.mask, encode i &&& i.mask⟩

/-- The row of every instruction stands in the table: under the mask nothing is left of its operands. -/
theorem Instr.row_mem (i : Instr) : i.row ∈ opcodeRows := by
  cases i <;> unfold Instr.row Instr.mask encode <;>
    simp only [wordNM, wordN_eq, wordB, wordD4_eq, wordI_eq, wordD12_eq, fields_and, nibble, Nat.reduceMul,
      BitVec.reduceExtractLsb', and_fifteen, BitVec.and_zero, bankField_and] <;>
    decide

/-- A word that decodes is of the row of its instruction. -/
theorem and_row_mask_of_decode {w : Half} {i : Instr} (h : decode w = .ok i) : w &&& i.row.mask = i.row.bits := by
  rw [← decodeThenEncode w i h]; rfl

/-! ## The words of a row -/

/-- Every word of the row is an instruction with the row's mask. -/
def OpcodeRow.Decodes (r : OpcodeRow) : Prop :=
  ∀ w, w &&& r.mask = r.bits → ∃ i, decode w = .ok i ∧ i.mask = r.mask

/-- `Decodes` with the condition on each field by itself. -/
theorem OpcodeRow.decodes_iff (r : OpcodeRow) : r.Decodes ↔
    ∀ a, a &&& nibble r.mask 3 = nibble r.bits 3 → ∀ d, d &&& nibble r.mask 0 = nibble r.bits 0 →
    ∀ m, m &&& nibble r.mask 1 = nibble r.bits 1 → ∀ n, n &&& nibble r.mask 2 = nibble r.bits 2 →
      (decodeNibbles a n m d).map Instr.mask = some r.mask where
  mp h a ha d hd m hm n hn := by
    obtain ⟨i, hi, hmask⟩ := h (a ++ n ++ m ++ d) (by rw [fields_and, fields_eq_iff]; exact ⟨ha, hn, hm, hd⟩)
    simp only [decode_eq_ok_iff, nibble3_fields, nibble2_fields, nibble1_fields, nibble0_fields] at hi
    rw [hi, Option.map_some, hmask]
  mpr h w hw := by
    rw [← fields_nibble w, fields_and, fields_eq_iff] at hw
    obtain ⟨ha, hn, hm, hd⟩ := hw
    simpa only [decode_eq_ok_iff, Option.map_eq_some_iff] using h _ ha _ hd _ hm _ hn

/-- A row fixes the fields that the decoder looks at; the other fields are free, and a bank field is one of `1bbb`. -/
theorem opcodeRows_decode : ∀ r ∈ opcodeRows, r.Decodes := by
  simp only [opcodeRows, dataTransferRows, arithmeticRows, logicRows, shiftRows, branchRows, systemControlRows,
    List.forall_mem_append, List.forall_mem_cons, List.not_mem_nil, IsEmpty.forall_iff, implies_true, and_true,
    OpcodeRow.decodes_iff, nibble, Nat.reduceMul, BitVec.reduceExtractLsb', and_fifteen, BitVec.and_zero, forall_eq,
    forall_const, forall_bankField, decodeNibbles_stcBank, decodeNibbles_stcLBank, decodeNibbles_ldcLBank,
    decodeNibbles_ldcBank]
  and_intros <;> intros <;> rfl

/-- A word of a row decodes, and the row is that of the instruction. -/
theorem decode_of_row {w : Half} {r : OpcodeRow} (hr : r ∈ opcodeRows) (hw : w &&& r.mask = r.bits) :
    ∃ i, decode w = .ok i ∧ r = i.row := by
  obtain ⟨i, hi, hmask⟩ := opcodeRows_decode r hr w hw
  refine ⟨i, hi, ?_⟩
  calc r = ⟨r.mask, r.bits⟩ := rfl
    _ = i.row := by rw [← hw, ← hmask, ← decodeThenEncode w i hi]; rfl

/-! ## The statements about the table -/

/-- A word of no row is what the decoder rejects (R96). -/
theorem no_row_iff (w : Half) :
    (∀ r ∈ opcodeRows, w &&& r.mask ≠ r.bits) ↔ decode w = .error (.reservedWord w) := by
  rw [decode_eq_error_iff]
  constructor
  · intro h i hi
    exact h i.row i.row_mem (and_row_mask_of_decode hi)
  · intro h r hr hw
    obtain ⟨i, hi, -⟩ := decode_of_row hr hw
    exact h i hi

/-- Settles O3: the decoder rejects the words of no row, and the words of R97 are such. -/
theorem reservedWords : Obligations.ReservedWords := by
  refine ⟨no_row_iff, fun x => (no_row_iff _).2 ?top, fun n low hlow => ?low⟩
  case top => rw [displacement_field]; exact decode_reserved_of_fields rfl
  case low =>
    rw [byte_field]
    apply decode_reserved_of_fields
    fin_cases hlow <;> rfl

/-- Settles O4: each row that a word is of is the row of the instruction it decodes to. -/
theorem oneRowPerWord : Obligations.OneRowPerWord := by
  intro w r hr q hq hwr hwq
  obtain ⟨i, hi, rfl⟩ := decode_of_row hr hwr
  obtain ⟨j, hj, rfl⟩ := decode_of_row hq hwq
  rw [hi] at hj
  rw [Except.ok.inj hj]

end Sys2Proof

namespace Sys2Proof.Machine

/-! ## A step on a reserved word -/

/-- EXPEVT holds the code of the exception that was taken, whether it was entered or became reset operation (R370, R372). -/
theorem State.takeExc_expevt (s : State) (e : Exc) : (s.takeExc e).expevt = e.code := by
  unfold State.takeExc; split <;> simp

/-- Settles O7: nothing comes before the fetch, and the word that it answers is no instruction. -/
theorem undefinedWordRaises : Obligations.UndefinedWordRaises := by
  intro s w hw hrow
  have hd : decode w = .error (.reservedWord w) := (no_row_iff w).1 hrow
  rw [← State.illegalExc_eq]
  constructor
  · simp only [step, hw.undisturbed.before, hw.fetch_eq, Access.run_ok, hd, State.undefinedWord, State.raise]
  · rw [State.takeExc_expevt, State.illegalExc_eq]
    split <;> rfl

end Sys2Proof.Machine
end

section
/-! PROOFS. Results in a general register, and the words that the examples print (40_data_transfer.md R121, R124, R155 to R159,
30_encoding.md R91, R92). Every word of these statements is the one that `encode` gives, so `encodeThenDecode` reads it. -/

namespace Sys2Proof.Machine

variable {i : Instr} {s : State} {w : Half} {n : Reg} {v : Word}

/-- A word that is the encoding of an instruction is read as it (R91). -/
theorem decode_of_encode (h : encode i = w) : decode w = .ok i := h ▸ encodeThenDecode i

/-- An instruction whose whole meaning is a result in Rn. -/
theorem setsReg_of_done (hw : encode i = w) (h : exec i s = (s.setReg n v).done) : SetsReg w i s n v :=
  ⟨decode_of_encode hw, finishes_done h (Kept.setReg s n v) (by simp) (by simp) (by simp)⟩

/-- A bit as 0 or 1 in a whole register (R7). -/
theorem zext1_eq_ite (b : Bool) : zext1 b = if b then 1 else 0 := by cases b <;> rfl

/-- Settles O30: the meaning of each of the six is a result in Rn. -/
theorem movesBetweenRegisters : Obligations.MovesBetweenRegisters := by
  intro m n i s
  refine ⟨?movImm, ?mov, ?movt, ?swapB, ?swapW, ?xtrct⟩
  case movt => rw [← zext1_eq_ite]; exact setsReg_of_done rfl rfl
  all_goals exact setsReg_of_done rfl rfl

/-- Settles O5: each word is that of the instruction printed beside it. -/
theorem sampleWords : Obligations.SampleWords := by
  and_intros <;> exact decode_of_encode rfl

end Sys2Proof.Machine
end

section
/-! PROOFS. The loads of the data transfer instructions (40_data_transfer.md R122, R123, R128 to R130, R134 to R136, R140 to
R142, R146 to R148, R152 to R155; log 10). -/

namespace Sys2Proof.Machine

variable {i : Instr} {s : State} {w : Half} {size : Nat} {ea : Word} {a : Access Word} {f : Nat → Word} {m n : Reg}

/-! ## Effective addresses -/

/-- A byte access does not scale its displacement (R94). -/
theorem State.eaDisp_one (s : State) (r : Reg) (d : BitVec 4) : s.eaDisp r d 1 = s.reg r + d.setWidth 32 :=
  congrArg (s.reg r + ·) (BitVec.mul_one _)

theorem State.eaGbr_one (s : State) (d : BitVec 8) : s.eaGbr d 1 = s.gbr + d.setWidth 32 :=
  congrArg (s.gbr + ·) (BitVec.mul_one _)

/-! ## The value that a load gives -/

/-- The access a is a load of `size` bytes at ea: it gives `f v` for a readable value v, and raises at a bad address. -/
structure LoadsValue (s : State) (size : Nat) (ea : Word) (f : Nat → Word) (a : Access Word) : Prop where
  readable : ∀ v, s.Readable size ea v → a = .ok (f v)
  bad : s.BadAddress size ea → a = .raises (.addressError .read ea)

/-- A byte is sign-extended (R128). -/
theorem loadsValue_byte (s : State) (ea : Word) :
    LoadsValue s 1 ea (fun v => (BitVec.ofNat 8 v).signExtend 32) ((s.loadByte .read ea).map sext8) where
  readable v hv := by rw [State.loadByte_readable hv]; rfl
  bad hb := by rw [State.loadByte_bad hb]; rfl

/-- A word is sign-extended (R129). -/
theorem loadsValue_word (s : State) (ea : Word) :
    LoadsValue s 2 ea (fun v => (BitVec.ofNat 16 v).signExtend 32) ((s.loadWord .read ea).map sext16) where
  readable v hv := by rw [State.loadWord_readable hv]; rfl
  bad hb := by rw [State.loadWord_bad hb]; rfl

theorem loadsValue_long (s : State) (ea : Word) : LoadsValue s 4 ea (fun v => BitVec.ofNat 32 v) (s.loadLong .read ea) where
  readable _ hv := State.loadLong_readable hv .read
  bad hb := State.loadLong_bad hb .read

/-! ## The instructions that load -/

/-- A load into Rn. -/
theorem LoadsValue.loadsReg (ha : LoadsValue s size ea f a) (hw : encode i = w) (h : exec i s = s.loadInto a n) :
    LoadsReg w i s size ea n f :=
  ⟨decode_of_encode hw, fun v hv => finishes_loadInto h (ha.readable v hv), fun hb => Follows.raises ⟨_, h⟩ (ha.bad hb)⟩

/-- A load through Rm with post-increment (R134). -/
theorem LoadsValue.loadIntoInc {incr : Word} (ha : LoadsValue s size ea f a) (hw : encode i = w)
    (h : exec i s = s.loadIntoInc a m n incr) :
    decode w = .ok i ∧
      (∀ v, s.Readable size ea v → Finishes i s [m, n] [] [] [] fun t =>
        t.reg n = f v ∧ (m ≠ n → t.reg m = s.reg m + incr)) ∧
      (s.BadAddress size ea → Raises i s (.addressError .read ea)) :=
  ⟨decode_of_encode hw, fun v hv => finishes_loadIntoInc h (ha.readable v hv),
    fun hb => Follows.raises ⟨_, h⟩ (ha.bad hb)⟩

/-- Settles O31: outside a slot the check of R427 passes and leaves a load or a result; in one it refuses. -/
theorem pcRelativeOperands : Obligations.PcRelativeOperands := by
  intro n d s
  refine ⟨fun hs => ⟨?movW, ?movL, ?mova⟩, fun hs => ?slot⟩
  case movW => exact (loadsValue_word s _).loadsReg rfl (State.pcRelative_none hs _)
  case movL => exact (loadsValue_long s _).loadsReg rfl (State.pcRelative_none hs _)
  case mova => exact setsReg_of_done rfl (State.pcRelative_none hs _)
  case slot =>
    obtain ⟨target, hs⟩ := Option.ne_none_iff_exists'.1 hs
    exact ⟨State.pcRelative_some hs _, State.pcRelative_some hs _, State.pcRelative_some hs _⟩

/-- Settles O32: each of the six loads its value from its own address. -/
theorem loadsIndirect : Obligations.LoadsIndirect := by
  intro m n d s
  rw [← State.eaDisp_one]
  refine ⟨?byte, ?word, ?long, ?byteDisp, ?wordDisp, ?longDisp⟩
  case byte | byteDisp => exact (loadsValue_byte s _).loadsReg rfl rfl
  case word | wordDisp => exact (loadsValue_word s _).loadsReg rfl rfl
  case long | longDisp => exact (loadsValue_long s _).loadsReg rfl rfl

/-- Settles O33: each of the six loads its value from its own address. -/
theorem loadsIndexed : Obligations.LoadsIndexed := by
  intro m n d s
  rw [← State.eaGbr_one]
  refine ⟨?byte, ?word, ?long, ?byteGbr, ?wordGbr, ?longGbr⟩
  case byte | byteGbr => exact (loadsValue_byte s _).loadsReg rfl rfl
  case word | wordGbr => exact (loadsValue_word s _).loadsReg rfl rfl
  case long | longGbr => exact (loadsValue_long s _).loadsReg rfl rfl

/-- Settles O34: Rm moves before Rn takes the value, and a bad address raises before either. -/
theorem loadsPostIncrement : Obligations.LoadsPostIncrement := fun _ _ s =>
  ⟨(loadsValue_byte s _).loadIntoInc rfl rfl, (loadsValue_word s _).loadIntoInc rfl rfl,
    (loadsValue_long s _).loadIntoInc rfl rfl⟩

end Sys2Proof.Machine
end

section
/-! PROOFS. The stores of the data transfer instructions (40_data_transfer.md R125 to R127, R131 to R133, R137 to R139, R143 to
R145, R149 to R151). -/

namespace Sys2Proof.Machine

variable {i : Instr} {s : State} {w : Half} {size : Nat} {ea v : Word} {a : Access State} {n : Reg}

/-! ## The bytes that a store leaves -/

theorem toNat_lowByte (v : Word) : (lowByte v).toNat = v.toNat % 256 := by
  rw [lowByte, BitVec.extractLsb'_toNat, Nat.shiftRight_zero]

theorem toNat_lowHalf (v : Word) : (lowHalf v).toNat = v.toNat % 65536 := by
  rw [lowHalf, BitVec.extractLsb'_toNat, Nat.shiftRight_zero]

/-- One byte has the same value in both byte orders (R61). -/
theorem bytesValue_singleton (e : Endian) (b : Byte) : bytesValue e [b] = b.toNat := by
  cases e <;> simp [bytesValue]

/-- The access a stores the low `size` bytes of v at ea where memory is reached, and raises at a bad address. -/
structure StoresValue (s : State) (size : Nat) (ea v : Word) (a : Access State) : Prop where
  memory : s.MayAccess size ea → ∃ l : List Byte, l.length = size ∧ bytesValue s.endian l = v.toNat % 256 ^ size ∧
    a = .ok (s.storeBytes (place ea) l)
  bad : s.BadAddress size ea → a = .raises (.addressError .write ea)

theorem storesValue_byte (s : State) (ea v : Word) : StoresValue s 1 ea v (s.storeByte ea (lowByte v)) where
  memory hm := ⟨_, rfl, (bytesValue_singleton _ _).trans (toNat_lowByte v), State.storeByte_memory hm _⟩
  bad hb := State.storeByte_bad hb _

theorem storesValue_word (s : State) (ea v : Word) : StoresValue s 2 ea v (s.storeWord ea (lowHalf v)) where
  memory hm := ⟨_, length_split2 _ _, (bytesValue_split2 _ _).trans (toNat_lowHalf v), State.storeWord_memory hm _⟩
  bad hb := State.storeWord_bad hb _

theorem storesValue_long (s : State) (ea v : Word) : StoresValue s 4 ea v (s.storeLong ea v) where
  memory hm := ⟨_, length_split4 _ _, (bytesValue_split4 _ _).trans (Nat.mod_eq_of_lt v.isLt).symm,
    State.storeLong_memory hm _⟩
  bad hb := State.storeLong_bad hb _

/-! ## The instructions that store -/

/-- A store that completes the instruction. -/
theorem StoresValue.storesReg (ha : StoresValue s size ea v a) (hw : encode i = w) (h : exec i s = s.storeDone a) :
    StoresReg w i s size ea v [] fun _ => True := by
  refine ⟨decode_of_encode hw, fun hm => ?_, fun hb => Follows.raises ⟨_, h⟩ (ha.bad hb)⟩
  obtain ⟨l, rfl, hv, hok⟩ := ha.memory hm
  simpa only [and_true, hv] using finishes_storeDone h hok

/-- A store with pre-decrement: the bytes are stored before Rn takes the address (R131). -/
theorem StoresValue.storesRegDec (ha : StoresValue s size ea v a) (hw : encode i = w)
    (h : exec i s = s.storeDec a n ea) : StoresReg w i s size ea v [n] fun t => t.reg n = ea := by
  refine ⟨decode_of_encode hw, fun hm => ?_, fun hb => Follows.raises ⟨_, h⟩ (ha.bad hb)⟩
  obtain ⟨l, rfl, hv, hok⟩ := ha.memory hm
  simpa only [hv] using finishes_storeDec h hok

/-- Settles O35: each of the six stores its bytes at its own address. -/
theorem storesIndirect : Obligations.StoresIndirect := by
  intro m n d s
  rw [← State.eaDisp_one]
  refine ⟨?byte, ?word, ?long, ?byteDisp, ?wordDisp, ?longDisp⟩
  case byte | byteDisp => exact (storesValue_byte s _ _).storesReg rfl rfl
  case word | wordDisp => exact (storesValue_word s _ _).storesReg rfl rfl
  case long | longDisp => exact (storesValue_long s _ _).storesReg rfl rfl

/-- Settles O36: each of the six stores its bytes at its own address. -/
theorem storesIndexed : Obligations.StoresIndexed := by
  intro m n d s
  rw [← State.eaGbr_one]
  refine ⟨?byte, ?word, ?long, ?byteGbr, ?wordGbr, ?longGbr⟩
  case byte | byteGbr => exact (storesValue_byte s _ _).storesReg rfl rfl
  case word | wordGbr => exact (storesValue_word s _ _).storesReg rfl rfl
  case long | longGbr => exact (storesValue_long s _ _).storesReg rfl rfl

/-- Settles O37: the value and the address are read before Rn changes, so m = n stores the old register. -/
theorem storesPreDecrement : Obligations.StoresPreDecrement := fun _ _ s =>
  ⟨(storesValue_byte s _ _).storesRegDec rfl rfl, (storesValue_word s _ _).storesRegDec rfl rfl,
    (storesValue_long s _ _).storesRegDec rfl rfl⟩

end Sys2Proof.Machine
end

section
/-! PROOFS. The arithmetic instructions on registers (41_arithmetic.md R171 to R194, R197 to R204): results in a general
register, in T, Q and M, and in MACH and MACL. The exact sums, differences and products of the rules are related to the
machine's words first; every instruction is then one of the completions of the second part. -/

namespace Sys2Proof.Machine

variable {i : Instr} {s : State} {w : Half} {m n : Reg} {v : Word} {b : Bool}

/-! ## Exact integers and words -/

/-- An exact sum modulo 2^32 is the sum of the words (R171). -/
theorem ofNat_toNat_add (x y : Word) : BitVec.ofNat 32 (x.toNat + y.toNat) = x + y := by
  rw [BitVec.ofNat_add, BitVec.ofNat_toNat, BitVec.ofNat_toNat, BitVec.setWidth_eq, BitVec.setWidth_eq]

/-- The sum with a sign-extended immediate (R172). -/
theorem ofInt_toInt_add_imm (x : Word) (d : Byte) : BitVec.ofInt 32 (x.toInt + d.toInt) = x + sext8 d := by
  rw [BitVec.ofInt_add, BitVec.ofInt_toInt]; rfl

theorem ofInt_toInt_add (x y : Word) : BitVec.ofInt 32 (x.toInt + y.toInt) = x + y := by
  rw [BitVec.ofInt_add, BitVec.ofInt_toInt, BitVec.ofInt_toInt]

theorem ofInt_sub (x y : Int) : BitVec.ofInt 32 (x - y) = BitVec.ofInt 32 x - BitVec.ofInt 32 y := by
  rw [Int.sub_eq_add_neg, BitVec.ofInt_add, BitVec.ofInt_neg, BitVec.sub_eq_add_neg]

theorem ofInt_toInt_sub (x y : Word) : BitVec.ofInt 32 (x.toInt - y.toInt) = x - y := by
  rw [ofInt_sub, BitVec.ofInt_toInt, BitVec.ofInt_toInt]

theorem ofInt_neg_toInt (x : Word) : BitVec.ofInt 32 (-x.toInt) = 0 - x := by
  rw [BitVec.ofInt_neg, BitVec.ofInt_toInt]; exact (BitVec.zero_sub x).symm

theorem ofInt_toNat (x : Word) : BitVec.ofInt 32 x.toNat = x := by
  rw [BitVec.ofInt_natCast, BitVec.ofNat_toNat, BitVec.setWidth_eq]

/-- A zero-extended low byte is the word modulo 2^8 (R193). -/
theorem ofNat_mod_byte (x : Word) : BitVec.ofNat 32 (x.toNat % 2 ^ 8) = zext8 (lowByte x) := by
  rw [zext8, ← BitVec.ofNat_toNat, toNat_lowByte]; rfl

theorem ofNat_mod_half (x : Word) : BitVec.ofNat 32 (x.toNat % 2 ^ 16) = zext16 (lowHalf x) := by
  rw [zext16, ← BitVec.ofNat_toNat, toNat_lowHalf]; rfl

theorem toNat_zext1 (b : Bool) : (zext1 b).toNat = b.toNat := by cases b <;> rfl

/-- The sum of `ADDC` modulo 2^32 (R173). -/
theorem ofNat_add_carry (x y : Word) (t : Bool) :
    BitVec.ofNat 32 (x.toNat + y.toNat + t.toNat) = x + y + zext1 t := by
  rw [BitVec.ofNat_add, ofNat_toNat_add, ← toNat_zext1, BitVec.ofNat_toNat, BitVec.setWidth_eq]

/-- Bit 32 of the sum of `ADDC` is the carry: the sum is below 2^33 (R173). -/
theorem bit32_eq_addCarry (x y : Word) (t : Bool) :
    ((x.toNat + y.toNat + t.toNat) / 2 ^ 32 == 1) = addCarry x y t := by
  have hx := x.isLt
  have hy := y.isLt
  have ht := Bool.toNat_le t
  rw [addCarry, beq_eq_decide, decide_eq_decide]
  omega

/-- The difference of `SUBC` modulo 2^32 (R203). -/
theorem ofInt_sub_borrow (x y : Word) (t : Bool) :
    BitVec.ofInt 32 (x.toNat - y.toNat - t.toNat) = x - y - zext1 t := by
  rw [ofInt_sub, ofInt_sub, ofInt_toNat, ofInt_toNat, ← toNat_zext1, ofInt_toNat]

/-- A decremented register is 0 when it was 1 (R190). -/
theorem decide_eq_one (x : Word) : decide (x = 1) = (x - 1 == 0) := by
  rw [beq_eq_decide, decide_eq_decide, BitVec.sub_eq_iff_eq_add]; rfl

/-- A signed word is at least 0 when bit 31 is 0 (R181). -/
theorem decide_nonneg (x : Word) : decide (x.toInt ≥ 0) = !x.getLsbD 31 := by
  rw [← BitVec.msb_eq_getLsbD_last x, BitVec.msb_eq_toInt, ← decide_not, decide_eq_decide, Int.not_lt]

/-- A signed word is above 0 when it is at least 0 and not 0 (R182). -/
theorem decide_pos (x : Word) : decide (x.toInt > 0) = (!x.getLsbD 31 && x != 0) := by
  have hzero : x.toInt = 0 ↔ x = 0 := BitVec.toInt_inj (y := 0#32)
  rw [← decide_nonneg, bne, beq_eq_decide, ← decide_not, ← Bool.decide_and, decide_eq_decide, ← hzero]
  omega

/-- `CMP/STR` looks at the four bytes one by one (R183). -/
theorem decide_byte_equal (x y : Word) :
    decide (∃ k : Fin 4, x.extractLsb' (8 * k.val) 8 = y.extractLsb' (8 * k.val) 8) = anyByteEqual x y := by
  rw [Bool.eq_iff_iff, decide_eq_true_iff, Fin.exists_iff]
  simp only [anyByteEqual, byteOf, Bool.or_eq_true, beq_iff_eq]
  constructor
  · rintro ⟨k, hk, h⟩
    interval_cases k <;> tauto
  · rintro (((h | h) | h) | h)
    exacts [⟨0, by omega, h⟩, ⟨1, by omega, h⟩, ⟨2, by omega, h⟩, ⟨3, by omega, h⟩]

/-! ## How an instruction completes -/

/-- An instruction whose whole meaning is a result in Rn and a bit in T. -/
theorem setsRegT_of_done (hw : encode i = w) (h : exec i s = ((s.setReg n v).setT b).done) : SetsRegT w i s n v b :=
  ⟨decode_of_encode hw, finishes_done h ((Kept.setReg s n v).trans (Kept.setT _ b)) (by simp) (by simp) (by simp)⟩

/-- An instruction whose whole meaning is a bit in T. -/
theorem setsT_of_done (hw : encode i = w) (h : exec i s = (s.setT b).done) : SetsT w i s b :=
  ⟨decode_of_encode hw, finishes_done h (Kept.setT s b) (by simp) (by simp) (by simp)⟩

theorem finishes_setMac {v : BitVec 64} (h : exec i s = (s.setMac v).done) :
    Finishes i s [] [] [.mach, .macl] [] fun t => t.mac = v :=
  finishes_done h (Kept.setMac s v) (by simp) (by simp) (by simp)

theorem finishes_setMacl (h : exec i s = (s.setMacl v).done) : Finishes i s [] [] [.macl] [] fun t => t.macl = v :=
  finishes_done h (Kept.setMacl s v) (by simp) (by simp) (by simp)

/-! ## Addition, subtraction and extension -/

/-- Settles O38: each value of the statement is the machine's, and each instruction is a result in Rn. -/
theorem plainArithmetic : Obligations.PlainArithmetic := by
  intro m n d s
  rw [ofNat_toNat_add, ofInt_toInt_add_imm, ofInt_neg_toInt, ofInt_toInt_sub, ofNat_mod_byte, ofNat_mod_half]
  refine ⟨?add, ?addImm, ?neg, ?sub, ?extsB, ?extsW, ?extuB, ?extuW⟩
  all_goals exact setsReg_of_done rfl rfl

/-- Settles O39: each value and each flag of the statement is the machine's, and each instruction is a result in Rn and T. -/
theorem carryBorrowOverflow : Obligations.CarryBorrowOverflow := by
  intro m n s
  refine ⟨?addc, ?subc, ?negc, ?addv, ?subv, ?dt⟩
  case addc => rw [ofNat_add_carry, bit32_eq_addCarry]; exact setsRegT_of_done rfl rfl
  case subc => rw [ofInt_sub_borrow]; exact setsRegT_of_done rfl rfl
  case negc => rw [show (0 : Int) = ((0 : Word).toNat : Int) from rfl, ofInt_sub_borrow]; exact setsRegT_of_done rfl rfl
  case addv => rw [ofInt_toInt_add]; exact setsRegT_of_done rfl rfl
  case subv => rw [ofInt_toInt_sub]; exact setsRegT_of_done rfl rfl
  case dt => rw [decide_eq_one]; exact setsRegT_of_done rfl rfl

/-! ## Comparison -/

/-- Settles O40: the tests of bit 31 and of the bytes are the comparisons of the statement, the others are written alike. -/
theorem compares : Obligations.Compares := by
  intro m n d s
  rw [decide_nonneg, decide_pos, decide_byte_equal]
  refine ⟨?eqImm, ?eq, ?hs, ?ge, ?hi, ?gt, ?pz, ?pl, ?str⟩
  all_goals exact setsT_of_done rfl rfl

/-! ## Division -/

/-- Settles O41: three writes of SR, each to a bit of its own. -/
theorem divisionSetup : Obligations.DivisionSetup := by
  intro m n s
  refine ⟨⟨decode_of_encode rfl, ?div0s⟩, decode_of_encode rfl, ?div0u⟩
  case div0s =>
    exact finishes_done rfl (((Kept.setQ ..).trans (Kept.setM ..)).trans (Kept.setT ..)) rfl rfl (by simp)
  case div0u =>
    exact finishes_done rfl (((Kept.setM ..).trans (Kept.setQ ..)).trans (Kept.setT ..)) rfl rfl (by simp)

/-- The shifted dividend is twice Rn with T added, modulo 2^32 (R186). -/
theorem toNat_divShifted (x : Word) (t : Bool) : (divShifted x t).toNat = (2 * x.toNat + t.toNat) % 2 ^ 32 := by
  have hdisjoint : x <<< 1 &&& zext1 t = 0#32 := by
    ext k hk
    cases k <;> cases t <;> simp [zext1]
  rw [divShifted, ← BitVec.add_eq_or_of_and_eq_zero _ _ hdisjoint, BitVec.toNat_add, BitVec.toNat_shiftLeft, toNat_zext1]
  omega

/-- The new Rn of `DIV1`: the difference or the sum modulo 2^32 (R186). -/
theorem toNat_divStep (x y : Word) (m q t : Bool) : (divStep x y m q t).1.toNat =
    if q = m then ((divShifted x t).toNat + 2 ^ 32 - y.toNat) % 2 ^ 32 else ((divShifted x t).toNat + y.toNat) % 2 ^ 32 := by
  have hy := y.isLt
  simp only [divStep]
  split
  · rw [BitVec.toNat_sub]; congr 1; omega
  · rw [BitVec.toNat_add]

/-- `DIV1` with two different registers: the step's result in Rn, Q and T (R186). -/
theorem finishes_div1 (hmn : m ≠ n) : Finishes (.div1 m n) s [n] [8, 0] [] [] fun t =>
    (t.reg n, t.flagQ, t.flagT) = divStep (s.reg n) (s.reg m) s.flagM s.flagQ s.flagT :=
  finishes_done (distinctRegs_ne hmn _) (((Kept.setReg ..).trans (Kept.setQ ..)).trans (Kept.setT ..)) (by simp) (by simp)
    (by simp)

/-- Settles O42: the step in exact integers; DIV1 Rn,Rn is refused (D22). -/
theorem divisionStep : Obligations.DivisionStep := by
  rintro m n s a d ha rfl
  rw [← toNat_divShifted] at ha
  subst ha
  refine ⟨decode_of_encode rfl, fun hmn => (finishes_div1 hmn).imp fun t ht => ?step, fun h => h ▸ distinctRegs_same m _⟩
  obtain ⟨hreg, hq, ht⟩ : t.reg n = _ ∧ t.flagQ = _ ∧ t.flagT = _ := by simpa only [Prod.ext_iff] using ht
  refine ⟨by rw [hreg, toNat_divStep], hq.trans (Bool.xor_assoc ..).symm, ?_⟩
  rw [ht, hq]; exact beq_eq_decide ..

/-! ## Multiplication -/

/-- The product of two signed words of 16 bits fits in 32 bits (R198). -/
theorem toInt_mulsW (x y : Half) : (sext16 x * sext16 y).toInt = x.toInt * y.toInt := by
  have hlo := BitVec.le_toInt_mul_toInt (x := x) (y := y)
  have hhi := BitVec.toInt_mul_toInt_le (x := x) (y := y)
  have hprod : sext16 x * sext16 y = BitVec.ofInt 32 (x.toInt * y.toInt) := (BitVec.ofInt_mul ..).symm
  rw [hprod]
  exact BitVec.toInt_ofInt_eq_self (by decide) (by omega) (by omega)

/-- The product of two unsigned words of 16 bits fits in 32 bits (R199). -/
theorem toNat_muluW (x y : Half) : (zext16 x * zext16 y).toNat = x.toNat * y.toNat := by
  have hlt : x.toNat * y.toNat < 2 ^ 16 * 2 ^ 16 := Nat.mul_lt_mul'' x.isLt y.isLt
  rw [BitVec.toNat_mul, zext16, zext16, BitVec.toNat_setWidth_of_le (by decide), BitVec.toNat_setWidth_of_le (by decide),
    Nat.mod_eq_of_lt (by omega)]

/-- The product of two unsigned words fits in 64 bits (R189). -/
theorem toNat_ofNat_product (x y : Word) : (BitVec.ofNat 64 (x.toNat * y.toNat)).toNat = x.toNat * y.toNat := by
  have hlt : x.toNat * y.toNat < 2 ^ 32 * 2 ^ 32 := Nat.mul_lt_mul'' x.isLt y.isLt
  rw [BitVec.toNat_ofNat, Nat.mod_eq_of_lt (by omega)]

/-- Settles O43: each product is exact in the register that takes it, MUL.L's modulo 2^32. -/
theorem multiplies : Obligations.Multiplies := by
  intro m n s
  refine ⟨⟨decode_of_encode rfl, ?dmulsL⟩, ⟨decode_of_encode rfl, ?dmuluL⟩, ⟨decode_of_encode rfl, ?mulL⟩,
    ⟨decode_of_encode rfl, ?mulsW⟩, decode_of_encode rfl, ?muluW⟩
  case dmulsL => exact (finishes_setMac rfl).imp fun t h => by rw [h, toInt_ofInt_product]
  case dmuluL => exact (finishes_setMac rfl).imp fun t h => by rw [h, toNat_ofNat_product]
  case mulL => exact (finishes_setMacl rfl).imp fun t h => by rw [h, BitVec.toNat_mul]
  case mulsW => exact (finishes_setMacl rfl).imp fun t h => by rw [h, toInt_mulsW]; rfl
  case muluW => exact (finishes_setMacl rfl).imp fun t h => by rw [h, toNat_muluW, toNat_lowHalf, toNat_lowHalf]; rfl

end Sys2Proof.Machine
end

section
/-! PROOFS. The second read of a multiply-accumulate instruction at a bad address (41_arithmetic.md R195, R196,
60_exceptions.md R361, R376; logs 7 and 8). -/

namespace Sys2Proof.Machine

variable {s : State} {m n : Reg}

/-- Settles O45: the address is as bad between the reads as before them, so the second read raises there. -/
theorem macSecondReadRaises : Obligations.MacSecondReadRaises := by
  intro m n s
  refine ⟨fun v hmn hv hbad => ?long, fun v hmn hv hbad => ?word, fun h => h ▸ ⟨exec_macL_same m, exec_macW_same m⟩⟩
  case long =>
    rw [exec_macL_ne hmn]
    refine State.macReads_raises_second (State.loadLong_readable hv .read) ?_
    rw [reg_second hmn]
    exact State.loadLong_bad (badAddress_second.2 hbad) .read
  case word =>
    rw [exec_macW_ne hmn]
    refine State.macReads_raises_second (State.loadWord_readable hv .read) ?_
    rw [reg_second hmn]
    exact State.loadWord_bad (badAddress_second.2 hbad) .read

end Sys2Proof.Machine
end

section
/-! PROOFS. The logic instructions (42_logic.md R221 to R233): results in a general register, T as a test for common bits, and
the read-modify-write of a byte of memory. -/

namespace Sys2Proof.Machine

variable {i : Instr} {s : State} {w : Half} {ea : Word} {v : Byte} {f : Byte → Byte}

/-! ## Common bits -/

/-- A zero-extended operand has bits only below its own width, so AND gives 0 exactly when none of those is common (R229,
R230). -/
theorem and_setWidth_eq_zero_iff {n k : Nat} (hk : k ≤ n) (x : BitVec n) (y : BitVec k) :
    x &&& y.setWidth n = 0 ↔ ∀ j : Fin k, ¬ (x.getLsbD j = true ∧ y.getLsbD j = true) := by
  have hbit (j : Nat) (hj : j < n) : (x &&& y.setWidth n).getLsbD j = (x.getLsbD j && y.getLsbD j) := by
    simp [hj]
  constructor
  · intro h j hcommon
    have hzero := hbit j (by omega)
    rw [h, hcommon.1, hcommon.2] at hzero
    simp at hzero
  · intro h
    refine BitVec.eq_of_getLsbD_eq fun j hj => (hbit j hj).trans ?_
    by_cases hjk : j < k
    · simpa using h ⟨j, hjk⟩
    · simp [BitVec.getLsbD_of_ge y j (by omega)]

theorem decide_no_common_bit_imm (x : Word) (y : Byte) :
    decide (∀ j : Fin 8, ¬ (x.getLsbD j = true ∧ y.getLsbD j = true)) = (x &&& zext8 y == 0) := by
  rw [Bool.eq_iff_iff, decide_eq_true_iff, beq_iff_eq, ← and_setWidth_eq_zero_iff (by decide)]
  rfl

theorem decide_no_common_bit (x y : Word) :
    decide (∀ j : Fin 32, ¬ (x.getLsbD j = true ∧ y.getLsbD j = true)) = (x &&& y == 0) := by
  rw [Bool.eq_iff_iff, decide_eq_true_iff, beq_iff_eq, ← and_setWidth_eq_zero_iff le_rfl, BitVec.setWidth_eq]

/-- Settles O47: the test for common bits is the machine's comparison with 0, and each instruction is a result in Rn or in T. -/
theorem logicRegisters : Obligations.LogicRegisters := by
  intro m n i s
  rw [decide_no_common_bit, decide_no_common_bit_imm]
  refine ⟨?and, ?andImm, ?not, ?or, ?orImm, ?xor, ?xorImm, ?tst, ?tstImm⟩
  case tst | tstImm => exact setsT_of_done rfl rfl
  all_goals exact setsReg_of_done rfl rfl

/-! ## A byte of memory -/

/-- The byte that a store of one byte leaves. -/
theorem State.holds_storeBytes_singleton (s : State) (p : Nat) (b : Byte) : (s.storeBytes p [b]).Holds 1 p b.toNat := by
  have h := s.holds_storeBytes p [b]
  rwa [bytesValue_singleton] at h

/-- AND.B, OR.B and XOR.B: the byte f of the byte read is stored in its place, and no flag is written (R223, R227, R234). -/
theorem combinesByte (hw : encode i = w) (h : exec i s = s.modifyByte ea f fun t _ => t) :
    decode w = .ok i ∧
      (∀ v : Byte, s.Readable 1 ea v.toNat →
        Finishes i s [] [] [] (span (place ea) 1) fun t => t.Holds 1 (place ea) (f v).toNat) ∧
      (s.BadAddress 1 ea → Raises i s (.addressError .read ea)) := by
  refine ⟨decode_of_encode hw, fun v hv => ?_, fun hb => h.trans (State.modifyByte_bad hb ..)⟩
  exact finishes_done (h.trans (State.modifyByte_readable hv ..)) (Kept.storeBytes s _ [f v]) (by simp) (by simp)
    ((s.holds_storeBytes_singleton _ _).congr (by simp) (by simp))

/-- TAS.B on a readable byte: T is written after the store (R228). -/
theorem finishes_tasB {n : Reg} (hv : s.Readable 1 (s.reg n) v.toNat) :
    Finishes (.tasB n) s [] [0] [] (span (place (s.reg n)) 1) fun t =>
      t.Holds 1 (place (s.reg n)) (v ||| 0x80).toNat ∧ t.flagT = decide (v = 0) := by
  refine finishes_done (u := (s.storeBytes (place (s.reg n)) [v ||| 0x80]).setT (v == 0))
    (State.modifyByte_readable hv ..) ?frame (by simp) (by simp)
    ⟨(s.holds_storeBytes_singleton _ _).congr (by simp) (by simp), ?flag⟩
  case frame => simpa using (Kept.storeBytes s _ [v ||| 0x80]).trans (Kept.setT _ _)
  case flag => simp [beq_eq_decide]

theorem exec_tstB (b : Byte) (s : State) : exec (.tstB b) s =
    (s.loadByte .read (s.gbr + s.reg 0)).run s fun v => (s.setT (v &&& b == 0)).done := rfl

/-- TST.B on a readable byte: nothing is stored (R231). -/
theorem finishes_tstB {b : Byte} (hv : s.Readable 1 (s.gbr + s.reg 0) v.toNat) :
    Finishes (.tstB b) s [] [0] [] [] fun t => t.flagT = decide (v &&& b = 0) := by
  refine finishes_done (u := s.setT (v &&& b == 0)) ?run (Kept.setT s _) (by simp) (by simp) (by simp [beq_eq_decide])
  case run => rw [exec_tstB, State.loadByte_readable hv, BitVec.ofNat_toNat, BitVec.setWidth_eq, Access.run_ok]

/-- Settles O48: AND.B, OR.B, XOR.B and TAS.B modify the byte at their address, TST.B only reads it; a bad address raises at
the read. -/
theorem logicBytes : Obligations.LogicBytes := by
  intro n b s
  refine ⟨?andB, ?orB, ?xorB, ?tasB, ?tstB⟩
  case tasB => exact ⟨decode_of_encode rfl, fun v hv => finishes_tasB hv, fun hb => State.modifyByte_bad hb ..⟩
  case tstB =>
    exact ⟨decode_of_encode rfl, fun v hv => finishes_tstB hv, fun hb => Follows.raises ⟨_, rfl⟩ (State.loadByte_bad hb .read)⟩
  all_goals exact combinesByte rfl rfl

end Sys2Proof.Machine
end

section
/-! PROOFS. The shift and rotate instructions (43_shift.md R241 to R256): results in a general register, and in T for those
by one. The shifted words of the rules are related to single bits (by one) and to exact products and quotients (by more). -/

namespace Sys2Proof.Machine

variable {i : Instr} {s : State} {w : Half} {n : Reg} {b : Bool} {e : BitVec 1}

/-! ## Shifts by one -/

/-- The low 31 bits move up by one, and e enters at the low end (R241). -/
theorem getLsbD_shiftedUp (x : Word) (e : BitVec 1) {k : Nat} (hk : k < 32) :
    (x.extractLsb' 0 31 ++ e).getLsbD k = if k = 0 then e.getLsbD 0 else x.getLsbD (k - 1) := by
  rw [BitVec.getLsbD_append]
  rcases k with - | k
  · rfl
  · simp [show k < 31 by omega]

/-- The high 31 bits move down by one, and e enters at the high end (R242). -/
theorem getLsbD_shiftedDown (x : Word) (e : BitVec 1) {k : Nat} (hk : k < 32) :
    (e ++ x.extractLsb' 1 31).getLsbD k = if k = 31 then e.getLsbD 0 else x.getLsbD (k + 1) := by
  rw [BitVec.getLsbD_append]
  by_cases h : k = 31
  · subst h; rfl
  · simp [h, show k < 31 by omega, Nat.add_comm]

/-- An instruction that moves Rn up by one with b entering at bit 0, and bit 31 into T. -/
theorem shiftsUp (he : e.getLsbD 0 = b) (hw : encode i = w)
    (h : exec i s = ((s.setReg n ((s.reg n).extractLsb' 0 31 ++ e)).setT ((s.reg n).getLsbD 31)).done) :
    ∃ v : Word, (∀ k < 32, v.getLsbD k = if k = 0 then b else (s.reg n).getLsbD (k - 1)) ∧
      SetsRegT w i s n v ((s.reg n).getLsbD 31) :=
  ⟨_, fun _ hk => he ▸ getLsbD_shiftedUp _ e hk, setsRegT_of_done hw h⟩

/-- An instruction that moves Rn down by one with b entering at bit 31, and bit 0 into T. -/
theorem shiftsDown (he : e.getLsbD 0 = b) (hw : encode i = w)
    (h : exec i s = ((s.setReg n (e ++ (s.reg n).extractLsb' 1 31)).setT ((s.reg n).getLsbD 0)).done) :
    ∃ v : Word, (∀ k < 32, v.getLsbD k = if k = 31 then b else (s.reg n).getLsbD (k + 1)) ∧
      SetsRegT w i s n v ((s.reg n).getLsbD 0) :=
  ⟨_, fun _ hk => he ▸ getLsbD_shiftedDown _ e hk, setsRegT_of_done hw h⟩

/-- Settles O49: each of the eight moves Rn up or down by one, and they differ in the bit that enters. -/
theorem shiftsByOne : Obligations.ShiftsByOne := by
  intro n s
  refine ⟨?rotl, ?rotr, ?rotcl, ?rotcr, ?shal, ?shar, ?shll, ?shlr⟩
  case rotl | rotcl | shal | shll => exact shiftsUp (by simp) rfl rfl
  case rotr | rotcr | shar | shlr => exact shiftsDown (by simp) rfl rfl

/-! ## Shifts by more -/

/-- A product with 2^k modulo 2^32 is a shift to the left (R250). -/
theorem ofNat_mul_two_pow (x : Word) (k : Nat) : BitVec.ofNat 32 (x.toNat * 2 ^ k) = x <<< k := by
  rw [← Nat.shiftLeft_eq]; rfl

/-- An unsigned quotient by 2^k is a logical shift to the right (R253). -/
theorem ofNat_div_two_pow (x : Word) (k : Nat) : BitVec.ofNat 32 (x.toNat / 2 ^ k) = x >>> k := by
  rw [← Nat.shiftRight_eq_div_pow, ← BitVec.toNat_ushiftRight, BitVec.ofNat_toNat, BitVec.setWidth_eq]

/-- A signed quotient by 2^k, rounded down, is an arithmetic shift to the right (R247). -/
theorem ofInt_div_two_pow (x : Word) (k : Nat) : BitVec.ofInt 32 (x.toInt / 2 ^ k) = x.sshiftRight k := by
  rw [BitVec.sshiftRight, Int.shiftRight_eq_div_pow]; norm_cast

/-- An arithmetic shift by 32 leaves the sign in every bit (R247). -/
theorem sshiftRight_width (x : Word) : x.sshiftRight 32 = if x.getLsbD 31 then 0xFFFFFFFF else 0 := by
  ext k hk
  rw [BitVec.getElem_sshiftRight, dif_neg (by omega), BitVec.msb_eq_getLsbD_last]
  cases x.getLsbD 31
  · simp
  · exact (BitVec.getElem_allOnes k hk).symm

theorem shiftCount_eq_mod (y : Word) : shiftCount y = y.toNat % 32 := by
  rw [shiftCount, BitVec.extractLsb'_toNat, Nat.shiftRight_zero]

/-- The case of `SHAD` by 32 is the general shift to the right, by 32 (R247). -/
theorem shiftArithmetic_eq (x y : Word) : shiftArithmetic x y =
    if y.getLsbD 31 = false then x <<< (y.toNat % 32) else x.sshiftRight (32 - y.toNat % 32) := by
  rw [shiftArithmetic, shiftCount_eq_mod]
  by_cases h : y.toNat % 32 = 0
  · rw [h, if_pos rfl, ← sshiftRight_width]
  · rw [if_neg h]

/-- The case of `SHLD` by 32 is the general shift to the right, by 32 (R256). -/
theorem shiftLogical_eq (x y : Word) : shiftLogical x y =
    if y.getLsbD 31 = false then x <<< (y.toNat % 32) else x >>> (32 - y.toNat % 32) := by
  rw [shiftLogical, shiftCount_eq_mod]
  by_cases h : y.toNat % 32 = 0
  · rw [h, if_pos rfl, BitVec.ushiftRight_eq_zero le_rfl]; rfl
  · rw [if_neg h]

/-- Settles O50: products and quotients are the machine's shifts, and each instruction is a result in Rn. -/
theorem shiftsByMore : Obligations.ShiftsByMore := by
  intro m n s
  simp only [ofNat_mul_two_pow, ofNat_div_two_pow, ofInt_div_two_pow, ← shiftArithmetic_eq, ← shiftLogical_eq]
  refine ⟨?shll2, ?shll8, ?shll16, ?shlr2, ?shlr8, ?shlr16, ?shad, ?shld⟩
  all_goals exact setsReg_of_done rfl rfl

end Sys2Proof.Machine
end

section
/-! PROOFS. Branches and delay slots: what each branch does and leaves alone, where an instruction may not stand, and which
instructions open a slot and how one ends (44_branch.md R260 to R273, 45_system_control.md R280, 60_exceptions.md R373;
log 24). -/

namespace Sys2Proof.Machine

variable {i : Instr} {s t u : State} {w : Half} {parts : List Part} {post : State → Prop}

/-! ## Branching -/

/-- A move of the pc and of the pending branch is in every frame. -/
theorem Kept.withPc (h : Kept [] [] parts [] s u) (pc : Word) (slot : Option Word) :
    Kept [] [] parts [] s { u with pc := pc, slot := slot } :=
  ⟨h.reg, h.srBit, h.part, h.byte, h.storedTo, h.asleep, h.resetPin, h.nmi, h.level, h.endian, h.shared, h.freeCount,
    h.oracleCount⟩

/-- In a delay slot an instruction that asks not to be in one raises (R262). -/
theorem raises_of_notInSlot {r : Result} (h : exec i s = s.notInSlot r) (hs : s.slot ≠ none) : Raises i s .illegalSlot := by
  obtain ⟨x, hx⟩ := Option.ne_none_iff_exists'.1 hs
  rw [Raises, h, State.notInSlot_some hx]

/-- An instruction that may not stand in a slot and answers a next state in the frame of a branch. -/
theorem branches_of_next {slot : Option Word} (hw : encode i = w) (h : exec i s = s.notInSlot (.next t)) (hp : post t)
    (hk : Kept [] [] parts [] s t) (hslot : s.slot = none → t.slot = slot) : Branches w i s t.pc slot parts post :=
  ⟨decode_of_encode hw, fun hs => ⟨t, by rw [h, State.notInSlot_none hs], hp, hk, rfl, hslot hs⟩, raises_of_notInSlot h⟩

/-- A branch without a slot (R263, R265). -/
theorem branches_of_jump {target : Word} (hw : encode i = w) (h : exec i s = s.notInSlot (s.jump target)) :
    Branches w i s target none [] fun _ => True :=
  branches_of_next hw h trivial ((Kept.refl s).withPc target s.slot) id

/-- A delayed branch that writes no register (R260). -/
theorem branches_of_delayedBranch {target : Word} (hw : encode i = w)
    (h : exec i s = s.notInSlot (s.delayedBranch target)) : Branches w i s (s.pc + 2) (some target) [] fun _ => True :=
  branches_of_next hw h trivial ((Kept.refl s).withPc _ _) fun _ => rfl

/-- A delayed branch that saves the address after its slot in PR (R269, R270, R272). -/
theorem branches_of_call {target : Word} (hw : encode i = w)
    (h : exec i s = s.notInSlot ((s.setPr (s.pc + 4)).delayedBranch target)) :
    Branches w i s (s.pc + 2) (some target) [.pr] fun t => t.pr = s.pc + 4 :=
  branches_of_next hw h rfl ((Kept.setPr s _).withPc _ _) fun _ => rfl

/-- Settles O51: T selects the target of each of the four. -/
theorem conditionalBranches : Obligations.ConditionalBranches := by
  rintro d s _ rfl
  refine ⟨branches_of_jump rfl ?bf, branches_of_delayedBranch rfl ?bfS, branches_of_jump rfl ?bt,
    branches_of_delayedBranch rfl ?btS⟩
  all_goals
    simp only [exec, execBf, execBfS, execBt, execBtS]
    cases s.flagT <;> rfl

/-- Settles O52: the target of each is read before PR is written. -/
theorem jumpsAndCalls : Obligations.JumpsAndCalls := by
  intro m d s
  refine ⟨?bra, ?braf, ?bsr, ?bsrf, ?jmp, ?jsr, ?rts⟩
  case bra | braf | jmp | rts => exact branches_of_delayedBranch rfl rfl
  case bsr | bsrf | jsr => exact branches_of_call rfl rfl

/-! ## Where instructions may not be executed -/

/-- Every instruction that may not stand in a slot asks for that first (R262). -/
theorem exec_slotIllegal (h : i.slotIllegal = true) : ∃ r, exec i s = s.notInSlot r := by
  cases i
  case bf | bfS | bt | btS | bra | braf | bsr | bsrf | jmp | jsr | rts | ldcSr | ldcLSr | rte | trapa => exact ⟨_, rfl⟩
  all_goals exact absurd h Bool.false_ne_true

/-- The two checks commute: where both fail, the instruction is in a slot, and both raise `IllegalSlot` (R262, R280). -/
theorem State.notInSlot_ifPrivileged (s : State) (r : Result) :
    s.notInSlot (s.ifPrivileged r) = s.ifPrivileged (s.notInSlot r) := by
  cases hp : s.privileged with
  | true => rw [State.ifPrivileged_true hp, State.ifPrivileged_true hp]
  | false =>
    rw [State.ifPrivileged_false hp, State.ifPrivileged_false hp, State.illegalExc_eq]
    cases hs : s.slot with
    | none => rw [State.notInSlot_none hs]
    | some x => rw [State.notInSlot_some hs]; rfl

/-- Every privileged instruction asks for privileged mode before it has any effect (R280). -/
theorem exec_privileged (h : i.privileged = true) : ∃ r, exec i s = s.ifPrivileged r := by
  cases i
  case ldcSr | ldcLSr | rte => exact ⟨_, s.notInSlot_ifPrivileged _⟩
  case ldcVbr | ldcSsr | ldcSpc | ldcLVbr | ldcLSsr | ldcLSpc | ldcBank | ldcLBank | stcSr | stcVbr | stcSsr | stcSpc
      | stcLSr | stcLVbr | stcLSsr | stcLSpc | stcBank | stcLBank | sleep | ldtlb => exact ⟨_, rfl⟩
  all_goals exact absurd h Bool.false_ne_true

/-- Settles O29: the check that fails comes before any effect. -/
theorem illegalInstructionsRaise : Obligations.IllegalInstructionsRaise := by
  refine fun i s => ⟨fun hs hi => ?_, fun hu hi => ?_⟩
  · obtain ⟨r, hr⟩ := exec_slotIllegal (s := s) hi
    exact raises_of_notInSlot hr hs
  · obtain ⟨r, hr⟩ := exec_privileged (s := s) hi
    exact (onlyPrivileged_of_ifPrivileged hr).2 hu

/-! ## Who opens a slot, and how a slot ends -/

/-- An exception in a slot saves the delayed branch before it (R373); `TRAPA` is the one that would not. -/
theorem State.savedPc_of_slot {x : Word} {e : Exc} (hs : s.slot = some x) (ht : ∀ imm, e ≠ .trap imm) :
    s.savedPc e = s.pc - 2 := by
  cases e with
  | trap imm => exact absurd rfl (ht imm)
  | addressError | reservedInstruction | illegalSlot => simp [State.savedPc, State.inSlot, hs]

/-- Settles O28: by the ways in which an instruction answers a next state. -/
theorem delaySlots : Obligations.DelaySlots := by
  intro i s t hb he
  rcases exec_next_cases he with ⟨u, h, rfl⟩ | ⟨hs, target, rfl⟩ | ⟨hs, hd, u, target, h, rfl⟩ | ⟨-, rfl⟩ |
    ⟨u, e, h, hv, ht, rfl⟩
  · exact ⟨by simp, fun x hx => by simp [h.slot, hx]⟩
  · exact ⟨fun _ hn => absurd hs hn, by simp [hs]⟩
  · exact ⟨fun _ _ => ⟨hd, by simp [h.pc]⟩, by simp [hs]⟩
  · exact ⟨by simp, fun x hx => by simp [hx]⟩
  · rw [takeExc_of_not_blocked (h.blocked.trans hb)]
    refine ⟨by simp, fun x hx => ⟨by simp, .inr ⟨by simp [hv], ?_⟩⟩⟩
    have hnot : ∀ imm, e ≠ .trap imm := fun imm hi => by simpa [hx] using ht imm hi
    rw [State.enterExc_spc, State.savedPc_of_slot (h.slot.trans hx) hnot, h.pc]

end Sys2Proof.Machine
end

section
/-! PROOFS. The system control instructions (45_system_control.md R281 to R327): clears and no-operations, loads and stores of
the control and system registers in registers and on a stack, writes of SR, TRAPA and RTE, and a sleep that nothing ends
(R312; log 19). -/

namespace Sys2Proof.Machine

variable {i : Instr} {s : State} {w : Half} {m : Reg} {v : Word} {p : Part} {f : State → Word → State} {r : Result}

/-! ## Sleep -/

/-- A sleeping machine with no reset request always has something to do before an instruction, and without an interrupt that
is accepted it is to sleep on (R312). -/
theorem State.before_asleep (ha : s.asleep = true) (hr : s.resetPin = none)
    (hno : s.slot ≠ none ∨ s.blocked = true ∨ (s.nmi = false ∧ s.level.val ≤ s.maskLevel)) :
    s.beforeInstruction = some s := by
  obtain ⟨t, hb⟩ : ∃ t, s.beforeInstruction = some t :=
    Option.ne_none_iff_exists'.1 fun hn => absurd ha (Bool.eq_false_iff.1 (State.before_none hn).2)
  rcases State.before_cases hb with ⟨k, hk, -⟩ | ⟨-, hs, hbl, hn, -⟩ | ⟨-, hs, hbl, -, hl, -⟩ | ⟨-, -, rfl⟩
  · simp [hr] at hk
  · simp [hs, hbl, hn] at hno
  · simp [hs, hbl, Nat.not_le.2 hl] at hno
  · exact hb

/-- Settles O10: what comes before the next instruction is sleeping on. -/
theorem sleepHolds : Obligations.SleepHolds := by
  intro s ha hr hno
  simp only [step, State.before_asleep ha hr hno]

/-! ## Clears and no-operations -/

/-- An instruction whose whole meaning is a bit in S. -/
theorem finishes_setS {b : Bool} (h : exec i s = (s.setS b).done) : Finishes i s [] [1] [] [] fun t => t.flagS = b :=
  finishes_done h (Kept.setS s b) (by simp) (by simp) (by simp)

/-- An instruction that only completes. -/
theorem finishes_unchanged (h : exec i s = s.done) : Finishes i s [] [] [] [] fun _ => True :=
  finishes_done h (Kept.refl s) rfl rfl trivial

/-- Settles O53: each is one write, or none. -/
theorem clearsAndNop : Obligations.ClearsAndNop := by
  intro n s
  refine ⟨⟨decode_of_encode rfl, ?clrmac⟩, ⟨decode_of_encode rfl, ?clrs⟩, ?clrt, ⟨decode_of_encode rfl, ?sets⟩, ?sett,
    ⟨decode_of_encode rfl, ?nop⟩, decode_of_encode rfl, ?pref⟩
  case clrmac => exact finishes_done (u := s.setMac 0) rfl (Kept.setMac s 0) (by simp) (by simp) (by simp)
  case clrs | sets => exact finishes_setS rfl
  case clrt | sett => exact setsT_of_done rfl rfl
  case nop | pref => exact finishes_unchanged rfl

/-! ## Control and system registers -/

theorem OnlyPrivileged.imp {P Q : Prop} (h : OnlyPrivileged i s P) (hPQ : P → Q) : OnlyPrivileged i s Q :=
  ⟨fun hp => hPQ (h.1 hp), h.2⟩

/-- The update f writes its value to the register p, all 32 bits, and changes nothing else. -/
structure WritesPart (p : Part) (f : State → Word → State) : Prop where
  value (s : State) (v : Word) : (f s v).part p = v
  kept (s : State) (v : Word) : Kept [] [] [p] [] s (f s v)
  pc (s : State) (v : Word) : (f s v).pc = s.pc
  slot (s : State) (v : Word) : (f s v).slot = s.slot

theorem writesPart_setGbr : WritesPart .gbr State.setGbr := ⟨by simp [State.part], Kept.setGbr, by simp, by simp⟩

theorem writesPart_setVbr : WritesPart .vbr State.setVbr := ⟨by simp [State.part], Kept.setVbr, by simp, by simp⟩

theorem writesPart_setSsr : WritesPart .ssr State.setSsr := ⟨by simp [State.part], Kept.setSsr, by simp, by simp⟩

theorem writesPart_setSpc : WritesPart .spc State.setSpc := ⟨by simp [State.part], Kept.setSpc, by simp, by simp⟩

theorem writesPart_setMach : WritesPart .mach State.setMach := ⟨by simp [State.part], Kept.setMach, by simp, by simp⟩

theorem writesPart_setMacl : WritesPart .macl State.setMacl := ⟨by simp [State.part], Kept.setMacl, by simp, by simp⟩

theorem writesPart_setPr : WritesPart .pr State.setPr := ⟨by simp [State.part], Kept.setPr, by simp, by simp⟩

theorem writesPart_setBackReg (b : BankReg) : WritesPart (.back b) fun s v => s.setBackReg b v :=
  ⟨by simp [State.part_setBackReg], fun s => Kept.setBackReg s b, by simp, by simp⟩

/-- The registers that Part names are the same after completing. -/
@[simp] theorem State.part_advance (s : State) (p : Part) : s.advance.part p = s.part p :=
  (Kept.advance s).part p List.not_mem_nil

/-- An instruction whose whole meaning is a write of such a register. -/
theorem WritesPart.setsPart (hf : WritesPart p f) (hw : encode i = w) (h : exec i s = (f s v).done) :
    SetsPart w i s p v :=
  ⟨decode_of_encode hw, finishes_done h (hf.kept s v) (hf.pc s v) (hf.slot s v) (by simp [hf.value])⟩

/-- A pop of such a register: Rm moves by 4 and the register takes the value, or the read at a bad address raises
(R328 (d)). -/
theorem WritesPart.pops (hf : WritesPart p f) (h : exec i s = s.popLong m f) :
    (∀ v : Word, s.Readable 4 (s.reg m) v.toNat →
      Finishes i s [m] [] [p] [] fun t => t.part p = v ∧ t.reg m = s.reg m + 4) ∧
    (s.BadAddress 4 (s.reg m) → Raises i s (.addressError .read (s.reg m))) := by
  refine ⟨fun v hv => finishes_popLong h hv hf.kept hf.pc hf.slot ⟨?value, ?reg⟩,
    fun hb => Follows.raises ⟨_, h⟩ (State.loadLong_bad hb .read)⟩
  case value => simp [hf.value]
  case reg => rw [State.advance_reg, (hf.kept _ _).reg m List.not_mem_nil, State.reg_setReg_same]

/-- Settles O54: each is a write of its register, those of R280 after the check of the mode. -/
theorem loadControlRegisters : Obligations.LoadControlRegisters := by
  intro m b s
  refine ⟨?gbr, (onlyPrivileged_of_ifPrivileged rfl).imp ?vbr, (onlyPrivileged_of_ifPrivileged rfl).imp ?ssr,
    (onlyPrivileged_of_ifPrivileged rfl).imp ?spc, (onlyPrivileged_of_ifPrivileged rfl).imp ?bank, ?mach, ?macl, ?pr⟩
  case gbr => exact writesPart_setGbr.setsPart rfl rfl
  case vbr => exact writesPart_setVbr.setsPart rfl
  case ssr => exact writesPart_setSsr.setsPart rfl
  case spc => exact writesPart_setSpc.setsPart rfl
  case bank => exact (writesPart_setBackReg b).setsPart rfl
  case mach => exact writesPart_setMach.setsPart rfl rfl
  case macl => exact writesPart_setMacl.setsPart rfl rfl
  case pr => exact writesPart_setPr.setsPart rfl rfl

/-- Settles O55: each is a result in Rn, those of R280 after the check of the mode. -/
theorem storeControlRegisters : Obligations.StoreControlRegisters := by
  intro n b s
  refine ⟨?gbr, ?sr, ?vbr, ?ssr, ?spc, ?bank, ?mach, ?macl, ?pr⟩
  case gbr | mach | macl | pr => exact setsReg_of_done rfl rfl
  all_goals exact (onlyPrivileged_of_ifPrivileged rfl).imp (setsReg_of_done rfl)

/-- Settles O56: each is a pop of its register, those of R280 after the check of the mode. -/
theorem popControlRegisters : Obligations.PopControlRegisters := by
  intro m b s
  refine ⟨⟨decode_of_encode rfl, ?gbr⟩, ⟨decode_of_encode rfl, (onlyPrivileged_of_ifPrivileged rfl).imp ?vbr⟩,
    ⟨decode_of_encode rfl, (onlyPrivileged_of_ifPrivileged rfl).imp ?ssr⟩,
    ⟨decode_of_encode rfl, (onlyPrivileged_of_ifPrivileged rfl).imp ?spc⟩,
    ⟨decode_of_encode rfl, (onlyPrivileged_of_ifPrivileged rfl).imp ?bank⟩,
    ⟨decode_of_encode rfl, ?mach⟩, ⟨decode_of_encode rfl, ?macl⟩, decode_of_encode rfl, ?pr⟩
  case gbr => exact writesPart_setGbr.pops rfl
  case vbr => exact writesPart_setVbr.pops
  case ssr => exact writesPart_setSsr.pops
  case spc => exact writesPart_setSpc.pops
  case bank => exact (writesPart_setBackReg b).pops
  case mach => exact writesPart_setMach.pops rfl
  case macl => exact writesPart_setMacl.pops rfl
  case pr => exact writesPart_setPr.pops rfl

/-- Settles O57: each stores its register at Rn - 4 before Rn moves, those of R280 after the check of the mode. -/
theorem pushControlRegisters : Obligations.PushControlRegisters := by
  intro n b s
  refine ⟨?sr, ?gbr, ?vbr, ?ssr, ?spc, ?bank, ?mach, ?macl, ?pr⟩
  case gbr | mach | macl | pr => exact (storesValue_long s _ _).storesRegDec rfl rfl
  all_goals exact (onlyPrivileged_of_ifPrivileged rfl).imp ((storesValue_long s _ _).storesRegDec rfl)

/-! ## Instructions with both checks -/

/-- Where both checks pass, an instruction that makes them is the rest of its meaning (R262, R280). -/
theorem exec_of_both (h : exec i s = s.notInSlot (s.ifPrivileged r)) (hs : s.slot = none) (hp : s.privileged = true) :
    exec i s = r := by
  rw [h, State.notInSlot_none hs, State.ifPrivileged_true hp]

/-- In user mode outside a slot such an instruction raises (R280). -/
theorem raises_of_user (h : exec i s = s.notInSlot (s.ifPrivileged r)) (hs : s.slot = none)
    (hu : s.privileged = false) : Raises i s .reservedInstruction := by
  rw [Raises, h, State.notInSlot_none hs, State.ifPrivileged_false hu, State.illegalExc_eq, if_pos hs]

theorem exec_ldcSr (m : Reg) (s : State) :
    exec (.ldcSr m) s = s.notInSlot (s.ifPrivileged (s.setSr (s.reg m)).done) := rfl

theorem exec_ldcLSr (m : Reg) (s : State) :
    exec (.ldcLSr m) s = s.notInSlot (s.ifPrivileged (s.popLong m State.setSr)) := rfl

theorem exec_rte (s : State) : exec .rte s = s.notInSlot (s.ifPrivileged s.returnFromException) := rfl

theorem exec_trapa (imm : Byte) (s : State) : exec (.trapa imm) s = s.notInSlot (s.raise (.trap imm)) := rfl

/-- Everything that a write of SR and completing outside a slot change (R34, R260). -/
theorem State.done_setSr (hs : s.slot = none) (v : Word) : (s.setSr v).done =
    .next { s with sr := v &&& 0x700003F3, pc := s.pc + 2, oracleCount := s.oracleCount + 1 } := by
  rw [State.done, State.advance_eq, State.setSr_slot, hs]; rfl

/-- Settles O58: outside a slot and in privileged mode SR takes the register or the longword read. -/
theorem loadStatusRegister : Obligations.LoadStatusRegister := by
  intro m s
  refine ⟨decode_of_encode rfl, decode_of_encode rfl, fun hs hp => ⟨?ldc, fun v hv => ?pop, fun hb => ?bad⟩,
    fun hs => ⟨raises_of_notInSlot (exec_ldcSr m s) hs, raises_of_notInSlot (exec_ldcLSr m s) hs⟩,
    fun hs hu => ⟨raises_of_user (exec_ldcSr m s) hs hu, raises_of_user (exec_ldcLSr m s) hs hu⟩⟩
  case ldc => rw [exec_of_both (exec_ldcSr m s) hs hp, State.done_setSr hs]
  case pop =>
    rw [exec_of_both (exec_ldcLSr m s) hs hp, State.popLong, State.loadLong_readable hv, Access.run_ok,
      BitVec.ofNat_toNat, BitVec.setWidth_eq, State.done_setSr (by simpa using hs), State.setReg_pc,
      State.setReg_oracleCount]
  case bad => exact Follows.raises ⟨_, exec_of_both (exec_ldcLSr m s) hs hp⟩ (State.loadLong_bad hb .read)

/-! ## The trap exception -/

/-- Entry of the trap exception (R364, R370, R374). -/
theorem State.enterExc_trap (s : State) (imm : Byte) : s.enterExc (.trap imm) =
    { s with
      tra := imm.setWidth 32 <<< 2
      expevt := 0x160
      spc := s.pc + 2
      ssr := s.sr &&& 0x700003F3
      sr := (s.sr &&& 0x700003F3) ||| 0x70000000
      slot := none
      asleep := false
      pc := s.vbr + 0x100 } := rfl

/-- Settles O59: TRAPA asks not to be in a slot and enters its exception; RTE makes both checks and returns. -/
theorem trapAndReturn : Obligations.TrapAndReturn := by
  intro i s
  refine ⟨decode_of_encode rfl, decode_of_encode rfl, fun hs hb => ?trapa, fun hs hp => exec_of_both (exec_rte s) hs hp,
    fun hs => ⟨raises_of_notInSlot (exec_trapa i s) hs, raises_of_notInSlot (exec_rte s) hs⟩,
    fun hs hu => raises_of_user (exec_rte s) hs hu⟩
  rw [exec_trapa, State.notInSlot_none hs, State.raise, takeExc_of_not_blocked hb, State.enterExc_trap, hs]

end Sys2Proof.Machine
end

section
/-! PROOFS. Exception entry, the codes and the saved pc of the general exceptions, and the event registers as operands of the
longword moves (60_exceptions.md R361 to R374, 45_system_control.md R328; log 14). -/

namespace Sys2Proof.Machine

variable {s : State} {i : Instr} {n : Reg} {ea v : Word} {r : EventReg}

/-! ## Entry -/

/-- Settles O14: with BL = 0 taking an exception is its entry, and TRAPA is the one that writes TRA as well. -/
theorem exceptionEntry : Obligations.ExceptionEntry := by
  refine fun s => ⟨fun hb e => ?general, fun code => rfl⟩
  rw [takeExc_of_not_blocked hb]
  cases e with
  | trap imm => exact State.enterExc_trap s imm
  | addressError | reservedInstruction | illegalSlot => rfl

/-! ## The saved pc -/

/-- An exception outside a slot saves the instruction (R373); `TRAPA` is the one that would not. -/
theorem State.savedPc_of_no_slot {e : Exc} (hs : s.slot = none) (ht : ∀ imm, e ≠ .trap imm) : s.savedPc e = s.pc := by
  cases e with
  | trap imm => exact absurd rfl (ht imm)
  | addressError | reservedInstruction | illegalSlot => simp [State.savedPc, State.inSlot, hs]

/-- Settles O15: the codes as the table of R367 has them, and the three rows of R373. -/
theorem exceptionCodesAndSavedPc : Obligations.ExceptionCodesAndSavedPc := by
  refine ⟨fun _ => ⟨rfl, rfl, rfl⟩, fun _ => rfl, rfl, rfl, fun _ _ ht hs => State.savedPc_of_no_slot hs ht,
    fun _ _ ht hs => ?slot, fun _ _ => rfl⟩
  obtain ⟨target, hs⟩ := Option.ne_none_iff_exists'.1 hs
  exact State.savedPc_of_slot hs ht

/-! ## The event registers as operands -/

/-- A longword load at the address of an event register gives the register (R374). -/
theorem State.loadLong_event (h : s.ReachesEvent ea r) (k : AccessKind) : s.loadLong k ea = .ok (s.eventReg r) := by
  simp [State.loadLong, State.locate_event h, Access.bind]

/-- Settles O20: the load and the store go to the event register in place of memory. -/
theorem eventRegisters : Obligations.EventRegisters := by
  intro m n s r
  refine ⟨fun hr => finishes_loadInto rfl (State.loadLong_event hr .read), fun hr => ?store⟩
  simpa only [and_true] using storesEvent_storeDone rfl r hr

/-- A store with pre-decrement that asks for privileged mode: where an event register is reached, the mode is that
(R280, R374). -/
theorem storesEvent_storeDec_privileged (h : exec i s = s.ifPrivileged (s.storeDec (s.storeLong ea v) n ea)) :
    StoresEvent i s ea v [n] fun t => t.reg n = ea := fun r hr =>
  storesEvent_storeDec (by rw [h, State.ifPrivileged_true hr.1]) r hr

/-- Settles O21: each is a longword store of its register at its own address, those of R280 after the check of the mode. -/
theorem eventRegisterStores : Obligations.EventRegisterStores := by
  intro m n b d e s
  refine ⟨?dec, ?disp, ?idx, ?gbrDisp, ?sr, ?gbr, ?vbr, ?ssr, ?spc, ?bank, ?mach, ?macl, ?pr⟩
  case disp | idx | gbrDisp => exact storesEvent_storeDone rfl
  case dec | gbr | mach | macl | pr => exact storesEvent_storeDec rfl
  case sr | vbr | ssr | spc | bank => exact storesEvent_storeDec_privileged rfl

end Sys2Proof.Machine
end

section
/-! PROOFS. A reset request: the step takes it before everything else (70_reset_and_hazards.md R410; 60_exceptions.md R372 (a),
R382). -/

namespace Sys2Proof.Machine

/-- A reset request is the step in every state: neither BL, a delay slot nor sleep is asked (R382, R410). -/
theorem step_of_resetPin {s : State} {k : ResetKind} (h : s.resetPin = some k) : step s = .next (s.takeReset k) := by
  simp only [step, State.beforeInstruction, h]

/-- Taking the request is reset operation with its code; that the request is gone afterwards is no matter of R410. -/
theorem resetDone_takeReset (s : State) (k : ResetKind) : ResetDone s (s.takeReset k) k.code :=
  have h := resetDone_resetWith s k.code
  { h with }

/-- Settles O12: the step takes the request, and what that leaves is what reset operation fixes. -/
theorem resetRequest : Obligations.ResetRequest := fun s k h =>
  ⟨s.takeReset k, step_of_resetPin h, resetDone_takeReset s k⟩

end Sys2Proof.Machine
end
